-- ==== Sys2Proof/Word.lean ====
section
/-! DEFINITION. The widths of BW16: 8-bit payload elements and headers, 16-bit bus words, 32-bit port
registers (00_scope.md R6, R14). All values are unsigned (R12). -/

namespace Sys2Proof

/-- An 8-bit value: a header (R71) or a byte element (R73). -/
abbrev Byte := BitVec 8

/-- A 16-bit value: the bus word (BUS_WIDTH, R6). -/
abbrev Word16 := BitVec 16

/-- A 32-bit value: a whole port register (PORT_REG_WIDTH, R6). -/
abbrev Word32 := BitVec 32

/-- N_BUS_LINES (R6): the bus has 16 lines, numbered 0 to 15. -/
abbrev busLines : Nat := 16

end Sys2Proof
end

