-- ==== Sys2Proof/Config.lean ====
section
/-! DEFINITION. What the spec leaves to the platform, the environment and the host: the form of what the host supplies
(payload streams, 30_encoding.md R74; its list of operations, 70_reset_and_hazards.md R190, R191), and opaque constants
(00_scope.md R6, R10; 92_eei_decisions.md D12). None of these has a body, so no proof can see a value of one. -/

namespace Sys2Proof

/-- The answer of one line operation (R14). -/
inductive Answer where
  | ok
  | fail
  deriving DecidableEq, Repr, Inhabited

/-- One line's pull-resistor setting. The raw encoding is the platform's (R28, U2): a symbolic number. -/
structure PullSetting where
  raw : Nat
  deriving DecidableEq, Repr, Inhabited

/-- One line's slew-rate setting. The raw encoding is the platform's (R29, U2): a symbolic number. -/
structure SpeedSetting where
  raw : Nat
  deriving DecidableEq, Repr, Inhabited

/-- PULL_ALT: 16 per-line settings, "alternating per line" (R6, R28; 90_conflicts.md C8). Log entry 9. -/
opaque Config.pullAlt : Vector PullSetting busLines

/-- SPEED_MAX: the "maximum slew rate", applied to all 16 lines (R6, R29). Log entry 9. -/
opaque Config.speedMax : SpeedSetting

/-- LineAnswer(n): the answer of the n-th line operation of the run, "a free draw under no law" (R10, U13).
Log entry 4. -/
opaque Config.lineAnswer : Nat → Answer

/-- IdrValue(n): the value of the n-th input-data read, a free draw (R10, U12). Log entry 5. -/
opaque Config.idrValue : Nat → Word32

/-- Element `k` of the lazy sequence number `id`, or none where that sequence has ended: "an element's value is
whatever the host's sequence yields at the moment of the pull" (R61). Log entry 6. -/
opaque Config.lazyElem : Nat → Nat → Option Word16

end Sys2Proof

namespace Sys2Proof.Machine

/-- How a sequence the host supplies goes on after the items written out: it ends, it repeats a cycle for ever (an infinite
payload, R139; an infinite list of operations, R190), or its items are those of the host's lazy sequence number `id` from
index `k` on (R61). Log entries 2 and 6. -/
inductive Tail (α : Type) where
  | ended
  | cycle (first : α) (rest : List α)
  | lazy (id k : Nat)
  deriving DecidableEq, Repr

/-- A sequence the host supplies, finite or infinite, read once and forward only: the items still to come. -/
structure Feed (α : Type) where
  items : List α
  tail : Tail α
  deriving DecidableEq, Repr

/-- A payload stream, "read-once, forward-only" (20_memory.md R50, R60). Each element is held in a 16-bit lane; under a byte
tag the interface is 8 bits wide and carries the lane's low byte. Log entry 6. -/
abbrev ElemStream := Feed Word16

/-- The zero-length payload: it "answers `end` to the first pull" (R74). -/
def ElemStream.empty : ElemStream := ⟨[], .ended⟩

/-- What the host does: it issues an operation with its payload stream (R8, R9), or BW16 is reset from outside
(70_reset_and_hazards.md R180). `waits` says that the host keeps its duty R182 (a) and lets the running operation
return first; without it the event comes at once. Log entry 2. -/
inductive HostEvent where
  | op (header : Byte) (data : ElemStream) (waits : Bool)
  | reset (waits : Bool)
  deriving DecidableEq, Repr

/-- What the host does next, in order: a finite list, or "an infinite list of host operations" (R190). Log entry 2. -/
abbrev HostPlan := Feed HostEvent

/-- A host that asks for nothing. -/
def HostPlan.empty : HostPlan := ⟨[], .ended⟩

end Sys2Proof.Machine

namespace Sys2Proof

/-- Item `k` of the host's lazy list of actions number `id`, or none where that list has ended. Log entry 2. -/
opaque Config.lazyEvent : Nat → Nat → Option Machine.HostEvent

end Sys2Proof
end

