-- ==== Sys2Proof/Syntax.lean ====
section
/-! DEFINITION. The abstract syntax of BW16 (30_encoding.md R70): one constructor per row of opcode_table.json,
20 of format H and 15 of format M. -/

namespace Sys2Proof

/-- Payload format tags (R73). `other c` is `Other(8 + c)`, an unsupported shape. -/
inductive Fmt where
  | u8
  | u16
  | u16be
  | u16le
  | u8Iter
  | u16Iter
  | u16beIter
  | u16leIter
  | other (c : BitVec 3)
  deriving DecidableEq, Repr

/-- Which send operation: SEND_CMD drives DC low, SEND_DATA drives DC high (R130, R131). -/
inductive SendKind where
  | cmd
  | data
  deriving DecidableEq, Repr

/-- The operations of BW16: HostOp, MicroOp and InnerOp of R70, in the opcode table's order. -/
inductive Instr where
  /-- INIT, alias `new`: header 0x00 (R112). -/
  | init
  /-- SEND_CMD with tag U8, header 0x10 (R73, R130). -/
  | sendCmdU8
  /-- SEND_CMD with tag U16, header 0x11 (R73, R130). -/
  | sendCmdU16
  /-- SEND_CMD with tag U16BE, header 0x12 (R73, R130). -/
  | sendCmdU16BE
  /-- SEND_CMD with tag U16LE, header 0x13 (R73, R130). -/
  | sendCmdU16LE
  /-- SEND_CMD with tag U8Iter, header 0x14 (R73, R130). -/
  | sendCmdU8Iter
  /-- SEND_CMD with tag U16Iter, header 0x15 (R73, R130). -/
  | sendCmdU16Iter
  /-- SEND_CMD with tag U16BEIter, header 0x16 (R73, R130). -/
  | sendCmdU16BEIter
  /-- SEND_CMD with tag U16LEIter, header 0x17 (R73, R130). -/
  | sendCmdU16LEIter
  /-- SEND_CMD with an unsupported tag Other(8 + c), header 0x18 + c (R73, R77). -/
  | sendCmdUnsupported (c : BitVec 3)
  /-- SEND_DATA with tag U8, header 0x20 (R73, R131). -/
  | sendDataU8
  /-- SEND_DATA with tag U16, header 0x21 (R73, R131). -/
  | sendDataU16
  /-- SEND_DATA with tag U16BE, header 0x22 (R73, R131). -/
  | sendDataU16BE
  /-- SEND_DATA with tag U16LE, header 0x23 (R73, R131). -/
  | sendDataU16LE
  /-- SEND_DATA with tag U8Iter, header 0x24 (R73, R131). -/
  | sendDataU8Iter
  /-- SEND_DATA with tag U16Iter, header 0x25 (R73, R131). -/
  | sendDataU16Iter
  /-- SEND_DATA with tag U16BEIter, header 0x26 (R73, R131). -/
  | sendDataU16BEIter
  /-- SEND_DATA with tag U16LEIter, header 0x27 (R73, R131). -/
  | sendDataU16LEIter
  /-- SEND_DATA with an unsupported tag Other(8 + c), header 0x28 + c (R73, R77). -/
  | sendDataUnsupported (c : BitVec 3)
  /-- RELEASE: header 0x30 (R115). -/
  | release
  /-- CS setLow, code 0x0 (R91). -/
  | csLow
  /-- CS setHigh, code 0x1 (R92). -/
  | csHigh
  /-- WR setLow, code 0x2 (R93). -/
  | wrLow
  /-- WR setHigh, code 0x3 (R94). -/
  | wrHigh
  /-- DC setLow, code 0x4 (R95). -/
  | dcLow
  /-- DC setHigh, code 0x5 (R96). -/
  | dcHigh
  /-- RD setLow, code 0x6 (R97). -/
  | rdLow
  /-- RD setHigh, code 0x7 (R98). -/
  | rdHigh
  /-- Bus Port configure, output, code 0x8 (R99). -/
  | cfgOut
  /-- Bus Port configure, input, code 0x9 (R100). -/
  | cfgIn
  /-- Bus Port output-data write of `v`, code 0xA; `v` stands beside the code (R101). -/
  | odrWrite (v : Word32)
  /-- Bus Port input-data read, code 0xB (R102). -/
  | idrRead
  /-- `driveWord`, code 0xC; the bus word `w` stands beside the code (R110). -/
  | driveWord (w : Word16)
  /-- `writeSequence`, code 0xD; its stream is the one SEQ holds in Fetch (R133). -/
  | writeSequence
  /-- `writePayload`, code 0xE; tag and payload are the ones SEQ holds in DcSet (R132). -/
  | writePayload
  deriving DecidableEq, Repr

end Sys2Proof
end

