-- ==== Sys2Proof/Machine/State.lean ====
section
/-! DEFINITION. The state of BW16 as plain data (10_state.md R20 to R42), the host's and the environment's inputs held
beside it, the reset state (R42), and the reasons a step can stop. -/

namespace Sys2Proof.Machine

/-- An electrical level (00_scope.md R14). -/
inductive Level where
  | low
  | high
  deriving DecidableEq, Repr

/-- The four control lines (R14, R21). -/
inductive LineId where
  | dc
  | wr
  | cs
  | rd
  deriving DecidableEq, Repr

/-- The spec's `Unknown | Known(value)` (R14). `unknown` is the spec's own reset value: "`Unknown` is not a value" (R42). -/
inductive Cfg (α : Type) where
  | unknown
  | known (v : α)
  deriving DecidableEq, Repr

/-- The level BW16 last drove on a line with an ok answer; unknown until then (R14, R21). -/
abbrev LineState := Cfg Level

/-- Direction of one bus line; output means push-pull output (R14, R27). -/
inductive Mode where
  | input
  | output
  deriving DecidableEq, Repr, Inhabited

/-- LIFE (R33). -/
inductive Lifecycle where
  | uninit
  | ready
  | released
  deriving DecidableEq, Repr

/-- The four error kinds (60_exceptions.md R150). -/
inductive Err where
  | chipSelectError
  | dcError
  | busWriteError
  | unsupportedFormat
  deriving DecidableEq, Repr

/-- What an operation returns (R14). -/
inductive Result where
  | ok
  | err (e : Err)
  deriving DecidableEq, Repr

/-- The levels of the four control lines, `line[DC]`, `line[WR]`, `line[CS]`, `line[RD]` (R20, R21). -/
@[ext]
structure Lines where
  dc : LineState
  wr : LineState
  cs : LineState
  rd : LineState
  deriving DecidableEq, Repr

/-- A payload: its tag and its stream (30_encoding.md R70, R74). -/
structure Payload where
  fmt : Fmt
  data : ElemStream
  deriving DecidableEq, Repr

/-- The element width of a supported tag, the class of R73. -/
inductive ElemWidth where
  | byte
  | word
  deriving DecidableEq, Repr

/-- The word sequence `p'` that the dispatch makes of a supported payload (R132, R134): its elements are widened when
they are pulled. -/
structure WordSeq where
  width : ElemWidth
  data : ElemStream
  deriving DecidableEq, Repr

/-- A payload element as the interface carries it: 8 or 16 bits by the payload's tag (R9, R74). -/
inductive Elem where
  | byte (b : Byte)
  | word (w : Word16)
  deriving DecidableEq, Repr

/-- The answer of one pull (R9): an element, or the end of the payload. -/
inductive Pulled where
  | elem (e : Elem)
  | ended
  deriving DecidableEq, Repr

/-- The micro-steps 1 to 16 of INIT (41_bus_writer.md R112): `m1` is `InitStep(1)`. -/
inductive InitStep where
  | m1 | m2 | m3 | m4 | m5 | m6 | m7 | m8
  | m9 | m10 | m11 | m12 | m13 | m14 | m15 | m16
  deriving DecidableEq, Repr

/-- The steps 1 to 5 of DRIVE_WORD (R110): `Writing(i, w, k, p)` is about to run step `dk`. -/
inductive WordStep where
  | d1 | d2 | d3 | d4 | d5
  deriving DecidableEq, Repr

/-- SEQ, the sequencer state (R34). The index `i` is an unbounded natural (92_eei_decisions.md D20). -/
inductive SeqState where
  | idle
  | initStep (k : InitStep)
  | dcPending (kind : SendKind) (p : Payload)
  | dcSet (p : Payload)
  | fetch (i : Nat) (ws : WordSeq)
  | writing (i : Nat) (w : Word16) (k : WordStep) (ws : WordSeq)
  deriving DecidableEq, Repr

/-- The events of the trace T (R37). -/
inductive Event where
  | accept (h : Byte)
  | pull (i : Nat) (e : Pulled)
  | ret (r : Result)
  | lineOp (l : LineId) (lvl : Level) (a : Answer)
  | cfgOut
  | cfgIn
  | odrWrite (v : Word32)
  | idrRead (v : Word32)
  deriving DecidableEq, Repr

/-- FAIL_LEVEL_POLICY: what a fail answer does to the recorded level (R6, R90; D7). Log entry 7. -/
inductive FailLevelPolicy where
  | unchanged
  | unknown
  deriving DecidableEq, Repr

/-- The order of DC_LOW and RD_HIGH in INIT's source step 2 (D10; 93_implementation_defined.md U5). Log entry 8. -/
inductive InitOrder where
  | dcFirst
  | rdFirst
  deriving DecidableEq, Repr

/-- The parameters of the step relation (R41), which no step changes: the two policy switches, and the answers of the
first line operations and input-data reads of the run (beyond them the free values of Config answer). -/
structure Params where
  failLevel : FailLevelPolicy
  initOrder : InitOrder
  lineScript : List Answer
  idrScript : List Word32
  deriving DecidableEq, Repr

/-- The state of BW16 (R20), and after it the model's own fields (`offer`, `inbox`, `params`). -/
@[ext]
structure State where
  /-- The levels last driven on the four control lines (R21). -/
  lines : Lines
  /-- MODE, one entry per bus line (R27). -/
  mode : Cfg (Vector Mode busLines)
  /-- PULL, one setting per bus line (R28). -/
  pull : Cfg (Vector PullSetting busLines)
  /-- SPEED, one setting per bus line (R29). -/
  speed : Cfg (Vector SpeedSetting busLines)
  /-- ODR, the 32-bit output-data register (R30). -/
  odr : Cfg Word32
  /-- ID_SAMPLE, the diagnostic sample of INIT (R36). -/
  idSample : Cfg Word16
  /-- LIFE (R33). -/
  life : Lifecycle
  /-- SEQ, the program counter's place (R34). -/
  seq : SeqState
  /-- T, oldest event first (R37). -/
  trace : List Event
  /-- `n` of R90: line operations so far. -/
  lineCount : Nat
  /-- `m` of R102: input-data reads so far. -/
  idrCount : Nat
  /-- The payload stream the host presents with the operation it issues. Log entry 3. -/
  offer : ElemStream
  /-- What the host does next, in order. Log entry 2. -/
  inbox : HostPlan
  /-- Parameters of the step relation. Log entries 4, 5, 7, 8. -/
  params : Params
  deriving DecidableEq, Repr

/-- The defaults: policy `Unchanged` (R6), DC_LOW first (R112), every answer left to the oracles (R10). -/
def Params.default : Params := ⟨.unchanged, .dcFirst, [], []⟩

/-- The state right after reset (R42, R180). -/
def State.reset : State where
  lines := ⟨.unknown, .unknown, .unknown, .unknown⟩
  mode := .unknown
  pull := .unknown
  speed := .unknown
  odr := .unknown
  idSample := .unknown
  life := .uninit
  seq := .idle
  trace := []
  lineCount := 0
  idrCount := 0
  offer := ElemStream.empty
  inbox := HostPlan.empty
  params := Params.default

/-- Why the machine stops with a fault. BW16 itself has no fault: its errors are results (R150, R158). Both names are
raised only by issuing an inner operation outside the precondition the spec gives it, which `step` never does from a
state with SEQ and LIFE in agreement. Safe: the machine stops where the spec gives no effect. Log entry 15. -/
inductive Fault where
  /-- WRITE_PAYLOAD outside `DcSet(p)` (R132) or WRITE_SEQUENCE outside `Fetch(i, ws)` (R133). Safe. -/
  | outOfSequence
  /-- DRIVE_WORD with `LIFE` other than Ready (R110 precondition, R116). Safe. -/
  | beforeHandshake
  deriving DecidableEq, Repr

/-- Why a request is refused: "the machine gives the request no meaning, the run is marked, and no claim holds of it;
this errs toward unprovable" (R163). -/
inductive Refusal where
  /-- An instruction without a meaning yet; raised by `exec` alone. Safe. -/
  | notModelled (mnemonic : String)
  /-- A header that selects no operation, presented by the host; raised by `step` (R76, D25). Safe. -/
  | invalidHeader (h : Byte)
  /-- A host operation that `LIFE` does not admit; raised by INIT, RELEASE and the send operations (R162, D16). Safe. -/
  | lifecycle (life : Lifecycle)
  /-- A host operation while another is in progress; raised by the host operations (R163, D17). Safe. -/
  | busy
  /-- A reset in the middle of an operation, which "the spec gives no meaning"; raised by `step` (R180, U15). Safe. -/
  | resetWhileBusy
  deriving DecidableEq, Repr

end Sys2Proof.Machine
end

