-- ==== Sys2Proof/Machine/Flags.lean ====
section
/-! DEFINITION. BW16 has no flags (10_state.md R39): "the outcome of an operation is its returned `Result`". What stands in
their place: the result codes (60_exceptions.md R150) and what a fail answer means to the operation that issued the line
operation (R151 to R155, R161). -/

namespace Sys2Proof.Machine

/-- The result codes of R150. -/
def Result.code : Result → Nat
  | .ok => 0
  | .err .chipSelectError => 1
  | .err .dcError => 2
  | .err .busWriteError => 3
  | .err .unsupportedFormat => 4

/-- The error kind of a failed line operation: CS, DC and WR have one, RD has none (R150, R155). -/
def lineError : LineId → Option Err
  | .cs => some .chipSelectError
  | .dc => some .dcError
  | .wr => some .busWriteError
  | .rd => none

/-- "CS-line failures during word framing are observed but swallowed" (R151, R161; 90_conflicts.md C1). -/
def Err.swallowed : Err → Bool
  | .chipSelectError => true
  | .dcError => false
  | .busWriteError => false
  | .unsupportedFormat => false

/-- What a send operation or DRIVE_WORD raises on an answer of line `l` (R155): nothing if ok, nothing for CS. -/
def raised (l : LineId) : Answer → Option Err
  | .ok => none
  | .fail =>
    match lineError l with
    | some e => if e.swallowed then none else some e
    | none => none

end Sys2Proof.Machine
end

