-- ==== Sys2Proof/WellFormed.lean ====
section
/-! DEFINITION. Well-formed instructions. The types of the operands exclude every other ill-formed term; the one
check left is ODR_WRITE's: "`v`, a Word32 with `v[31:16] = 0` in every use BW16 makes" (40_pin_microops.md R101). -/

namespace Sys2Proof

/-- The upper half of ODR_WRITE's operand is zero (R30, R51, R101); nothing is asked of the others. -/
def Instr.wellFormed : Instr → Bool
  | .init => true
  | .sendCmdU8 => true
  | .sendCmdU16 => true
  | .sendCmdU16BE => true
  | .sendCmdU16LE => true
  | .sendCmdU8Iter => true
  | .sendCmdU16Iter => true
  | .sendCmdU16BEIter => true
  | .sendCmdU16LEIter => true
  | .sendCmdUnsupported _ => true
  | .sendDataU8 => true
  | .sendDataU16 => true
  | .sendDataU16BE => true
  | .sendDataU16LE => true
  | .sendDataU8Iter => true
  | .sendDataU16Iter => true
  | .sendDataU16BEIter => true
  | .sendDataU16LEIter => true
  | .sendDataUnsupported _ => true
  | .release => true
  | .csLow => true
  | .csHigh => true
  | .wrLow => true
  | .wrHigh => true
  | .dcLow => true
  | .dcHigh => true
  | .rdLow => true
  | .rdHigh => true
  | .cfgOut => true
  | .cfgIn => true
  | .odrWrite v => v.extractLsb' 16 16 == 0#16
  | .idrRead => true
  | .driveWord _ => true
  | .writeSequence => true
  | .writePayload => true

end Sys2Proof
end

