-- ==== Sys2Proof/Decode.lean ====
section
/-! DEFINITION. Decoding and encoding. Format H is one 8-bit header (30_encoding.md R71 to R73, R76, R82), format M
a 4-bit code with its operand beside it (R78; opcode_table.json: "32-bit value, not in the code", "16-bit bus word,
not in the code"). Both decoders are total and reject by name. -/

namespace Sys2Proof

/-- Why a word is no instruction. -/
inductive DecodeError where
  /-- A header that selects no operation (R76). -/
  | invalidHeader (h : Byte)
  /-- Format M code 0xF: "reserved; never generated by the sequencer" (R78, U23). -/
  | reservedCode
  /-- Operand bits beside a format M code that has no such operand. DESIGN CHOICE, log entry 12. -/
  | strayOperand (code : BitVec 4)
  deriving DecidableEq, Repr

/-- One encoded operation: a format H header, or a format M code with the operand the sequencer hands it. -/
inductive OpWord where
  | header (h : Byte)
  | micro (code : BitVec 4) (operand : Word32)
  deriving DecidableEq, Repr

/-- The tag a 4-bit FMT field names (R73). -/
def fmtOfCode (f : BitVec 4) : Fmt :=
  match f.toNat with
  | 0 => .u8
  | 1 => .u16
  | 2 => .u16be
  | 3 => .u16le
  | 4 => .u8Iter
  | 5 => .u16Iter
  | 6 => .u16beIter
  | 7 => .u16leIter
  | _ => .other (f.extractLsb' 0 3)

/-- SEND_CMD with a tag (R72, R73). -/
def sendCmdOf : Fmt → Instr
  | .u8 => .sendCmdU8
  | .u16 => .sendCmdU16
  | .u16be => .sendCmdU16BE
  | .u16le => .sendCmdU16LE
  | .u8Iter => .sendCmdU8Iter
  | .u16Iter => .sendCmdU16Iter
  | .u16beIter => .sendCmdU16BEIter
  | .u16leIter => .sendCmdU16LEIter
  | .other c => .sendCmdUnsupported c

/-- SEND_DATA with a tag (R72, R73). -/
def sendDataOf : Fmt → Instr
  | .u8 => .sendDataU8
  | .u16 => .sendDataU16
  | .u16be => .sendDataU16BE
  | .u16le => .sendDataU16LE
  | .u8Iter => .sendDataU8Iter
  | .u16Iter => .sendDataU16Iter
  | .u16beIter => .sendDataU16BEIter
  | .u16leIter => .sendDataU16LEIter
  | .other c => .sendDataUnsupported c

/-- Decode a format H header by its fields OP (7:4) and FMT (3:0) (R71, R72, R76). -/
def decodeHeader (h : Byte) : Except DecodeError Instr :=
  match (h.extractLsb' 4 4).toNat with
  | 0 => if h.extractLsb' 0 4 == 0#4 then .ok .init else .error (.invalidHeader h)
  | 1 => .ok (sendCmdOf (fmtOfCode (h.extractLsb' 0 4)))
  | 2 => .ok (sendDataOf (fmtOfCode (h.extractLsb' 0 4)))
  | 3 => if h.extractLsb' 0 4 == 0#4 then .ok .release else .error (.invalidHeader h)
  | _ => .error (.invalidHeader h)

/-- Decode a format M code with its operand (R78). -/
def decodeMicro (code : BitVec 4) (operand : Word32) : Except DecodeError Instr :=
  let plain := fun (i : Instr) => if operand == 0#32 then Except.ok i else .error (.strayOperand code)
  match code.toNat with
  | 0 => plain .csLow
  | 1 => plain .csHigh
  | 2 => plain .wrLow
  | 3 => plain .wrHigh
  | 4 => plain .dcLow
  | 5 => plain .dcHigh
  | 6 => plain .rdLow
  | 7 => plain .rdHigh
  | 8 => plain .cfgOut
  | 9 => plain .cfgIn
  | 10 => if operand.extractLsb' 16 16 == 0#16 then .ok (.odrWrite operand) else .error (.strayOperand code)
  | 11 => plain .idrRead
  | 12 => if operand.extractLsb' 16 16 == 0#16 then .ok (.driveWord (operand.extractLsb' 0 16)) else .error (.strayOperand code)
  | 13 => plain .writeSequence
  | 14 => plain .writePayload
  | _ => .error .reservedCode

/-- Decode either format. -/
def decode : OpWord → Except DecodeError Instr
  | .header h => decodeHeader h
  | .micro code operand => decodeMicro code operand

/-- The encoding of an instruction, written from the tables of R72, R73 and R78. -/
def encode : Instr → OpWord
  | .init => .header 0x00#8
  | .sendCmdU8 => .header 0x10#8
  | .sendCmdU16 => .header 0x11#8
  | .sendCmdU16BE => .header 0x12#8
  | .sendCmdU16LE => .header 0x13#8
  | .sendCmdU8Iter => .header 0x14#8
  | .sendCmdU16Iter => .header 0x15#8
  | .sendCmdU16BEIter => .header 0x16#8
  | .sendCmdU16LEIter => .header 0x17#8
  | .sendCmdUnsupported c => .header (0b00011#5 ++ c)
  | .sendDataU8 => .header 0x20#8
  | .sendDataU16 => .header 0x21#8
  | .sendDataU16BE => .header 0x22#8
  | .sendDataU16LE => .header 0x23#8
  | .sendDataU8Iter => .header 0x24#8
  | .sendDataU16Iter => .header 0x25#8
  | .sendDataU16BEIter => .header 0x26#8
  | .sendDataU16LEIter => .header 0x27#8
  | .sendDataUnsupported c => .header (0b00101#5 ++ c)
  | .release => .header 0x30#8
  | .csLow => .micro 0x0#4 0#32
  | .csHigh => .micro 0x1#4 0#32
  | .wrLow => .micro 0x2#4 0#32
  | .wrHigh => .micro 0x3#4 0#32
  | .dcLow => .micro 0x4#4 0#32
  | .dcHigh => .micro 0x5#4 0#32
  | .rdLow => .micro 0x6#4 0#32
  | .rdHigh => .micro 0x7#4 0#32
  | .cfgOut => .micro 0x8#4 0#32
  | .cfgIn => .micro 0x9#4 0#32
  | .odrWrite v => .micro 0xA#4 v
  | .idrRead => .micro 0xB#4 0#32
  | .driveWord w => .micro 0xC#4 (w.setWidth 32)
  | .writeSequence => .micro 0xD#4 0#32
  | .writePayload => .micro 0xE#4 0#32

/-- The 4-bit code of a tag (R73). -/
def Fmt.code : Fmt → BitVec 4
  | .u8 => 0b0000#4
  | .u16 => 0b0001#4
  | .u16be => 0b0010#4
  | .u16le => 0b0011#4
  | .u8Iter => 0b0100#4
  | .u16Iter => 0b0101#4
  | .u16beIter => 0b0110#4
  | .u16leIter => 0b0111#4
  | .other c => 0b1#1 ++ c

/-- The OP field of a send operation (R72). -/
def SendKind.op : SendKind → BitVec 4
  | .cmd => 0b0001#4
  | .data => 0b0010#4

/-- `0x10 | FMT` or `0x20 | FMT`: the header a send operation is accepted with (R130, R131). -/
def sendHeader (kind : SendKind) (fmt : Fmt) : Byte := kind.op ++ fmt.code

/-- A row of opcode_table.json: its width in bits, the bits it fixes and their values. -/
structure TableRow where
  width : Nat
  pattern : Nat
  mask : Nat
  deriving DecidableEq, Repr

/-- The row of opcode_table.json an instruction belongs to. -/
def Instr.row : Instr → TableRow
  | .init => ⟨8, 0x00, 0xFF⟩
  | .sendCmdU8 => ⟨8, 0x10, 0xFF⟩
  | .sendCmdU16 => ⟨8, 0x11, 0xFF⟩
  | .sendCmdU16BE => ⟨8, 0x12, 0xFF⟩
  | .sendCmdU16LE => ⟨8, 0x13, 0xFF⟩
  | .sendCmdU8Iter => ⟨8, 0x14, 0xFF⟩
  | .sendCmdU16Iter => ⟨8, 0x15, 0xFF⟩
  | .sendCmdU16BEIter => ⟨8, 0x16, 0xFF⟩
  | .sendCmdU16LEIter => ⟨8, 0x17, 0xFF⟩
  | .sendCmdUnsupported _ => ⟨8, 0x18, 0xF8⟩
  | .sendDataU8 => ⟨8, 0x20, 0xFF⟩
  | .sendDataU16 => ⟨8, 0x21, 0xFF⟩
  | .sendDataU16BE => ⟨8, 0x22, 0xFF⟩
  | .sendDataU16LE => ⟨8, 0x23, 0xFF⟩
  | .sendDataU8Iter => ⟨8, 0x24, 0xFF⟩
  | .sendDataU16Iter => ⟨8, 0x25, 0xFF⟩
  | .sendDataU16BEIter => ⟨8, 0x26, 0xFF⟩
  | .sendDataU16LEIter => ⟨8, 0x27, 0xFF⟩
  | .sendDataUnsupported _ => ⟨8, 0x28, 0xF8⟩
  | .release => ⟨8, 0x30, 0xFF⟩
  | .csLow => ⟨4, 0x0, 0xF⟩
  | .csHigh => ⟨4, 0x1, 0xF⟩
  | .wrLow => ⟨4, 0x2, 0xF⟩
  | .wrHigh => ⟨4, 0x3, 0xF⟩
  | .dcLow => ⟨4, 0x4, 0xF⟩
  | .dcHigh => ⟨4, 0x5, 0xF⟩
  | .rdLow => ⟨4, 0x6, 0xF⟩
  | .rdHigh => ⟨4, 0x7, 0xF⟩
  | .cfgOut => ⟨4, 0x8, 0xF⟩
  | .cfgIn => ⟨4, 0x9, 0xF⟩
  | .odrWrite _ => ⟨4, 0xA, 0xF⟩
  | .idrRead => ⟨4, 0xB, 0xF⟩
  | .driveWord _ => ⟨4, 0xC, 0xF⟩
  | .writeSequence => ⟨4, 0xD, 0xF⟩
  | .writePayload => ⟨4, 0xE, 0xF⟩

/-- The bits of an encoded operation that the table numbers: the header, or the format M code. -/
def OpWord.tableBits : OpWord → Nat
  | .header h => h.toNat
  | .micro code _ => code.toNat

/-- The width in bits of the part of an encoded operation that the table numbers (R79). -/
def OpWord.tableWidth : OpWord → Nat
  | .header _ => 8
  | .micro _ _ => 4

/-- The instruction of a decoder's answer, if there is one. -/
def decodedInstr : Except DecodeError Instr → Option Instr
  | .ok i => some i
  | .error _ => none

/-- A format M code given as a number, its operand zero. -/
def microOfTableWord (w : Nat) : Option Instr :=
  if w < 16 then decodedInstr (decodeMicro (BitVec.ofNat 4 w) 0#32) else none

/-- The instruction whose bits are `w`, numbered as opcode_table.json numbers them. A word narrower than a byte is a
format M code, a byte is a header. Because the table's 4-bit codes may be given rounded up to a whole byte, a byte
that is no header is then read as a format M code; only the machine's own `decodeHeader` says what the host may
issue. Code 0x0 (CS_LOW) rounded to a byte is the header 0x00 (INIT). DESIGN CHOICE, log entry 13. -/
def decodeTableWord (nbits w : Nat) : Option Instr :=
  if nbits < 8 then microOfTableWord w
  else if nbits = 8 then
    if w < 256 then
      match decodeHeader (BitVec.ofNat 8 w) with
      | .ok i => some i
      | .error _ => microOfTableWord w
    else none
  else none

end Sys2Proof
end

