-- ==== Sys2Proof/Machine/Operands.lean ====
section
/-! DEFINITION. Operand assembly (30_encoding.md R73, R75) and what the host supplies, item by item: the
payload stream (20_memory.md R60, 30_encoding.md R74) and its list of operations (70_reset_and_hazards.md R190, R191). -/

namespace Sys2Proof.Machine

/-- `zext_16` of an 8-bit element: zeros above it (R13, R75). -/
def zext16 (b : Byte) : Word16 := b.setWidth 16

/-- `zext_32` of a bus word, `odr(w)` of R75: `ODR[15:0] = w`, `ODR[31:16] = 0`. -/
def zext32 (w : Word16) : Word32 := w.setWidth 32

/-- The class of a tag (R73): byte, word, or unsupported. -/
def widthOf : Fmt → Option ElemWidth
  | .u8 => some .byte
  | .u16 => some .word
  | .u16be => some .word
  | .u16le => some .word
  | .u8Iter => some .byte
  | .u16Iter => some .word
  | .u16beIter => some .word
  | .u16leIter => some .word
  | .other _ => none

/-- The element a lane carries at the interface: 8 bits under a byte tag, 16 under a word tag (R74). -/
def elemOf : ElemWidth → Word16 → Elem
  | .byte, lane => .byte (lane.extractLsb' 0 8)
  | .word, lane => .word lane

/-- `word(fmt, e)` of R75: a byte is zero-extended, a word goes verbatim. -/
def wordOf : Elem → Word16
  | .byte b => zext16 b
  | .word w => w

/-- The next item of a host sequence and the rest of it, or none at its end; `lazyAt` gives the items of a lazy one. -/
def Feed.pull {α : Type} (lazyAt : Nat → Nat → Option α) (p : Feed α) : Option (α × Feed α) :=
  match p.items with
  | x :: xs => some (x, ⟨xs, p.tail⟩)
  | [] =>
    match p.tail with
    | .ended => none
    | .cycle x xs => some (x, ⟨xs, .cycle x xs⟩)
    | .lazy id k =>
      match lazyAt id k with
      | some x => some (x, ⟨[], .lazy id (k + 1)⟩)
      | none => none

/-- The next lane of a payload stream and the rest of it, or none at its end (R60, R74). -/
def ElemStream.next (p : ElemStream) : Option (Word16 × ElemStream) := Feed.pull Config.lazyElem p

/-- The host's next event and what it does after it, or none (R191). -/
def HostPlan.next (p : HostPlan) : Option (HostEvent × HostPlan) := Feed.pull Config.lazyEvent p

/-- What the host does after its next event. -/
def HostPlan.rest (p : HostPlan) : HostPlan :=
  match p.next with
  | some (_, rest) => rest
  | none => p

/-- The plan with one event put before all others. -/
def HostPlan.push (e : HostEvent) (p : HostPlan) : HostPlan := ⟨e :: p.items, p.tail⟩

/-- `Next(p)` (R60) on a word sequence: the element and the rest, or none where the payload answers end. -/
def WordSeq.next (ws : WordSeq) : Option (Elem × WordSeq) :=
  match ws.data.next with
  | some (lane, rest) => some (elemOf ws.width lane, ⟨ws.width, rest⟩)
  | none => none

/-- The level DC is driven to (R130, R131). -/
def dcLevel : SendKind → Level
  | .cmd => .low
  | .data => .high

end Sys2Proof.Machine
end

