-- ==== Sys2Proof/Machine/Ops.lean ====
section
/-! DEFINITION. The named operations on the state: reading and writing the lines, the port registers, the trace; the line
operation (40_pin_microops.md R90), the port accesses (20_memory.md R51 to R53), accepting an operation (60_exceptions.md
R162, R163), ending one, and `raise` (R158), which is BW16's taking of an exception. -/

namespace Sys2Proof.Machine

/-- `line[L]` (00_scope.md R15). -/
def Lines.get (ls : Lines) : LineId → LineState
  | .dc => ls.dc
  | .wr => ls.wr
  | .cs => ls.cs
  | .rd => ls.rd

/-- `line[L] <- v` (R15). -/
def Lines.set (ls : Lines) (l : LineId) (v : LineState) : Lines :=
  match l with
  | .dc => { ls with dc := v }
  | .wr => { ls with wr := v }
  | .cs => { ls with cs := v }
  | .rd => { ls with rd := v }

def State.withLine (s : State) (l : LineId) (v : LineState) : State := { s with lines := s.lines.set l v }
def State.withMode (s : State) (v : Cfg (Vector Mode busLines)) : State := { s with mode := v }
def State.withPull (s : State) (v : Cfg (Vector PullSetting busLines)) : State := { s with pull := v }
def State.withSpeed (s : State) (v : Cfg (Vector SpeedSetting busLines)) : State := { s with speed := v }
def State.withOdr (s : State) (v : Cfg Word32) : State := { s with odr := v }
def State.withIdSample (s : State) (v : Cfg Word16) : State := { s with idSample := v }
def State.withLife (s : State) (v : Lifecycle) : State := { s with life := v }
/-- `SEQ <- q` (R15). -/
def State.withSeq (s : State) (q : SeqState) : State := { s with seq := q }
/-- `emit(e)`: append to T (R15, R37). -/
def State.emit (s : State) (e : Event) : State := { s with trace := s.trace ++ [e] }
/-- `n <- n + 1` of R90. -/
def State.countLine (s : State) : State := { s with lineCount := s.lineCount + 1 }
/-- `m <- m + 1` of R102. -/
def State.countIdr (s : State) : State := { s with idrCount := s.idrCount + 1 }
def State.withOffer (s : State) (p : ElemStream) : State := { s with offer := p }
def State.withInbox (s : State) (es : HostPlan) : State := { s with inbox := es }

/-- LineAnswer(n) (R10): the script's entry where it has one, else the free value. Log entry 4. -/
def State.lineAnswer (s : State) (n : Nat) : Answer :=
  match s.params.lineScript[n]? with
  | some a => a
  | none => Config.lineAnswer n

/-- IdrValue(n) (R10): the script's entry where it has one, else the free value. Log entry 5. -/
def State.idrValue (s : State) (n : Nat) : Word32 :=
  match s.params.idrScript[n]? with
  | some v => v
  | none => Config.idrValue n

/-- The answer the next line operation gets. -/
def State.nextAnswer (s : State) : Answer := s.lineAnswer s.lineCount

/-- The value the next input-data read returns. -/
def State.nextIdr (s : State) : Word32 := s.idrValue s.idrCount

/-- `line[L]` after a line operation that drove it to `lvl` (R90). -/
def levelAfter (policy : FailLevelPolicy) (a : Answer) (lvl : Level) (old : LineState) : LineState :=
  match a with
  | .ok => .known lvl
  | .fail =>
    match policy with
    | .unchanged => old
    | .unknown => .unknown

/-- `LineOp(L, lvl)` (R90): attempted exactly once, whatever level the line is at. Its answer is `s.nextAnswer`. -/
def lineOp (l : LineId) (lvl : Level) (s : State) : State :=
  ((s.withLine l (levelAfter s.params.failLevel s.nextAnswer lvl (s.lines.get l))).countLine).emit
    (.lineOp l lvl s.nextAnswer)

/-- `CFG_OUT` (R53, R99): one atomic configure of all 16 lines. -/
def configureOut (s : State) : State :=
  (((s.withMode (.known (Vector.replicate busLines .output))).withPull (.known Config.pullAlt)).withSpeed
    (.known (Vector.replicate busLines Config.speedMax))).emit .cfgOut

/-- `CFG_IN` (R53, R100): MODE only; PULL, SPEED and ODR keep their values. -/
def configureIn (s : State) : State :=
  (s.withMode (.known (Vector.replicate busLines .input))).emit .cfgIn

/-- `MemWrite(ODR, 4, v)` and its event (R51, R101): the whole register is written. -/
def writeOdr (v : Word32) (s : State) : State :=
  (s.withOdr (.known v)).emit (.odrWrite v)

/-- `MemRead(IDR, 4)`, the sample of bits 15:0, and the event (R52, R102). -/
def readIdr (s : State) : State :=
  ((s.withIdSample (.known (s.nextIdr.extractLsb' 0 16))).countIdr).emit (.idrRead s.nextIdr)

/-- The end of a host operation: `Ret(r)`, and SEQ back to Idle (R34, R134). -/
def finish (r : Result) (s : State) : State := (s.withSeq .idle).emit (.ret r)

/-- `raise e` (R158): the operation ends here with `Err(e)`; nothing is saved and nothing undone. There is no return
instruction beside it: "`raise` itself brings `SEQ` to `Idle`" (R159). -/
def raise (e : Err) (s : State) : State := finish (.err e) s

/-- What `raised` says, done: raise the error, or go on with `next`. -/
def raiseOr (e : Option Err) (next : State → State) (s : State) : State :=
  match e with
  | some e => raise e s
  | none => next s

/-- Whether no operation is in progress, the only state that accepts one (R34, R163). -/
def SeqState.isIdle : SeqState → Bool
  | .idle => true
  | .initStep _ => false
  | .dcPending _ _ => false
  | .dcSet _ => false
  | .fetch _ _ => false
  | .writing _ _ _ _ => false

/-- Accepting a host operation (R162, R163): refused while busy and in the wrong LIFE; else `Accept(h)`, the stream at
the payload interface is taken, and `next` says how the operation begins. -/
def accept (h : Byte) (needs : Lifecycle) (next : State → State) (s : State) :
    Host.Outcome State Fault Refusal :=
  if s.seq.isIdle then
    if s.life = needs then .next (next ((s.emit (.accept h)).withOffer ElemStream.empty))
    else .refused (.lifecycle s.life)
  else .refused .busy

end Sys2Proof.Machine
end

