-- ==== Sys2Proof/Machine/Adapter.lean ====
section
/-! DEFINITION. The Data-Format Adapter: SEND_CMD, SEND_DATA, WRITE_PAYLOAD, WRITE_SEQUENCE (42_data_format_adapter.md). -/

namespace Sys2Proof.Machine

/-- `SEND_CMD(fmt, p)` and `SEND_DATA(fmt, p)` (R130, R131): accepted in Ready with header `0x10 | FMT` or `0x20 | FMT`; the
stream at the payload interface is bound to the operation (R74) and SEQ is `DcPending(kind, p)`. -/
def acceptSend (kind : SendKind) (fmt : Fmt) (s : State) : Host.Outcome State Fault Refusal :=
  accept (sendHeader kind fmt) .ready (fun t => t.withSeq (.dcPending kind ⟨fmt, s.offer⟩)) s

/-- `SEND_CMD.U8` (R73, R130). -/
def execSendCmdU8 (s : State) : Host.Outcome State Fault Refusal := acceptSend .cmd .u8 s

/-- `SEND_CMD.U16` (R73, R130). -/
def execSendCmdU16 (s : State) : Host.Outcome State Fault Refusal := acceptSend .cmd .u16 s

/-- `SEND_CMD.U16BE` (R73, R130). -/
def execSendCmdU16BE (s : State) : Host.Outcome State Fault Refusal := acceptSend .cmd .u16be s

/-- `SEND_CMD.U16LE` (R73, R130). -/
def execSendCmdU16LE (s : State) : Host.Outcome State Fault Refusal := acceptSend .cmd .u16le s

/-- `SEND_CMD.U8Iter` (R73, R130). -/
def execSendCmdU8Iter (s : State) : Host.Outcome State Fault Refusal := acceptSend .cmd .u8Iter s

/-- `SEND_CMD.U16Iter` (R73, R130). -/
def execSendCmdU16Iter (s : State) : Host.Outcome State Fault Refusal := acceptSend .cmd .u16Iter s

/-- `SEND_CMD.U16BEIter` (R73, R130). -/
def execSendCmdU16BEIter (s : State) : Host.Outcome State Fault Refusal := acceptSend .cmd .u16beIter s

/-- `SEND_CMD.U16LEIter` (R73, R130). -/
def execSendCmdU16LEIter (s : State) : Host.Outcome State Fault Refusal := acceptSend .cmd .u16leIter s

/-- `SEND_CMD.UNSUPPORTED`: a valid header with an unsupported tag (R77, R130). -/
def execSendCmdUnsupported (c : BitVec 3) (s : State) : Host.Outcome State Fault Refusal := acceptSend .cmd (.other c) s

/-- `SEND_DATA.U8` (R73, R131). -/
def execSendDataU8 (s : State) : Host.Outcome State Fault Refusal := acceptSend .data .u8 s

/-- `SEND_DATA.U16` (R73, R131). -/
def execSendDataU16 (s : State) : Host.Outcome State Fault Refusal := acceptSend .data .u16 s

/-- `SEND_DATA.U16BE` (R73, R131). -/
def execSendDataU16BE (s : State) : Host.Outcome State Fault Refusal := acceptSend .data .u16be s

/-- `SEND_DATA.U16LE` (R73, R131). -/
def execSendDataU16LE (s : State) : Host.Outcome State Fault Refusal := acceptSend .data .u16le s

/-- `SEND_DATA.U8Iter` (R73, R131). -/
def execSendDataU8Iter (s : State) : Host.Outcome State Fault Refusal := acceptSend .data .u8Iter s

/-- `SEND_DATA.U16Iter` (R73, R131). -/
def execSendDataU16Iter (s : State) : Host.Outcome State Fault Refusal := acceptSend .data .u16Iter s

/-- `SEND_DATA.U16BEIter` (R73, R131). -/
def execSendDataU16BEIter (s : State) : Host.Outcome State Fault Refusal := acceptSend .data .u16beIter s

/-- `SEND_DATA.U16LEIter` (R73, R131). -/
def execSendDataU16LEIter (s : State) : Host.Outcome State Fault Refusal := acceptSend .data .u16leIter s

/-- `SEND_DATA.UNSUPPORTED`: a valid header with an unsupported tag (R77, R131). -/
def execSendDataUnsupported (c : BitVec 3) (s : State) : Host.Outcome State Fault Refusal := acceptSend .data (.other c) s

/-- `WRITE_PAYLOAD(fmt, p)` (R132): in `DcSet(p)`, dispatch on the class of the tag: a word sequence to fetch from, or
`UnsupportedFormat` with nothing pulled. -/
def execWritePayload (s : State) : Host.Outcome State Fault Refusal :=
  match s.seq with
  | .dcSet p =>
    match widthOf p.fmt with
    | some width => .next (s.withSeq (.fetch 0 ⟨width, p.data⟩))
    | none => .next (raise .unsupportedFormat s)
  | .idle => .fault .outOfSequence
  | .initStep _ => .fault .outOfSequence
  | .dcPending _ _ => .fault .outOfSequence
  | .fetch _ _ => .fault .outOfSequence
  | .writing _ _ _ _ => .fault .outOfSequence

/-- `WRITE_SEQUENCE(ws)` (R133): in `Fetch(i, ws)`, one turn of its loop: pull element `i`; an element begins a word, the
end of the payload ends the operation with `Ok`. -/
def execWriteSequence (s : State) : Host.Outcome State Fault Refusal :=
  match s.seq with
  | .fetch i ws =>
    match ws.next with
    | some (e, rest) => .next ((s.emit (.pull i (.elem e))).withSeq (.writing i (wordOf e) .d1 rest))
    | none => .next (finish .ok (s.emit (.pull i .ended)))
  | .idle => .fault .outOfSequence
  | .initStep _ => .fault .outOfSequence
  | .dcPending _ _ => .fault .outOfSequence
  | .dcSet _ => .fault .outOfSequence
  | .writing _ _ _ _ => .fault .outOfSequence

end Sys2Proof.Machine
end

