-- ==== Sys2Proof/Machine/BusWriter.lean ====
section
/-! DEFINITION. The Bus Writer: DRIVE_WORD, INIT and RELEASE (41_bus_writer.md). -/

namespace Sys2Proof.Machine

/-- `DRIVE_WORD(w)` (R110): its five side effects in order, and its result. A raise skips every later step (D8). -/
def driveWord (w : Word16) (s : State) : Result × State :=
  let s1 := lineOp .cs .low s
  let s2 := lineOp .wr .low s1
  match raised .wr s1.nextAnswer with
  | some e => (.err e, s2)
  | none =>
    let s3 := writeOdr (zext32 w) s2
    let s4 := lineOp .wr .high s3
    match raised .wr s3.nextAnswer with
    | some e => (.err e, s4)
    | none => (.ok, lineOp .cs .high s4)

/-- Where the word's result goes (R133, R134): inside a word of a send operation to the next pull or to `raise`; in Idle, as
in the vectors of 95_test_vectors.md Part 4, no operation is there to end. In the other SEQ states the spec has no
DRIVE_WORD; that it runs there too and leaves SEQ as it is, its result returned to nobody, and that it runs whole from a
later step of a word too, is the model's choice (DESIGN CHOICE, log entry 21; `step` issues none there). -/
def wordReturn (r : Result) (s : State) : State :=
  match s.seq with
  | .writing i _ _ ws =>
    match r with
    | .ok => s.withSeq (.fetch (i + 1) ws)
    | .err e => raise e s
  | .idle => s
  | .initStep _ => s
  | .dcPending _ _ => s
  | .dcSet _ => s
  | .fetch _ _ => s

/-- `DRIVE_WORD`: the whole word as one action. Precondition `LIFE = Ready` (R110, R116). The sequencer of `step`
runs the same five steps one at a time (R34). -/
def execDriveWord (w : Word16) (s : State) : Host.Outcome State Fault Refusal :=
  match s.life with
  | .ready => .next (wordReturn (driveWord w s).1 (driveWord w s).2)
  | .uninit => .fault .beforeHandshake
  | .released => .fault .beforeHandshake

/-- `INIT` (R112): accepted in Uninit; `SEQ <- InitStep(1)`. The 16 micro-steps are the sequencer's next steps. -/
def execInit (s : State) : Host.Outcome State Fault Refusal :=
  accept 0x00#8 .uninit (fun t => t.withSeq (.initStep .m1)) s

/-- `RELEASE` (R115): `Accept(0x30)`, `LIFE <- Released`, `Ret(Ok)`; no micro-operation. -/
def execRelease (s : State) : Host.Outcome State Fault Refusal :=
  accept 0x30#8 .ready (fun t => finish .ok (t.withLife .released)) s

end Sys2Proof.Machine
end

