-- ==== Sys2Proof/Machine/LineOps.lean ====
section
/-! DEFINITION. The eight line micro-operations (40_pin_microops.md R91 to R98). Each is `LineOp` (R90) on its line: "the
micro-operation itself raises nothing". -/

namespace Sys2Proof.Machine

/-- `CS_LOW`: "Assert CS (set low)" (R91). -/
def execCsLow (s : State) : Host.Outcome State Fault Refusal := .next (lineOp .cs .low s)

/-- `CS_HIGH`: "Deassert CS (set high)" (R92). -/
def execCsHigh (s : State) : Host.Outcome State Fault Refusal := .next (lineOp .cs .high s)

/-- `WR_LOW`: "Assert WR low" (R93). -/
def execWrLow (s : State) : Host.Outcome State Fault Refusal := .next (lineOp .wr .low s)

/-- `WR_HIGH`: "Deassert WR (set high) — this is the sampling edge" (R94). -/
def execWrHigh (s : State) : Host.Outcome State Fault Refusal := .next (lineOp .wr .high s)

/-- `DC_LOW`: command mode (R95). -/
def execDcLow (s : State) : Host.Outcome State Fault Refusal := .next (lineOp .dc .low s)

/-- `DC_HIGH`: data mode (R96). -/
def execDcHigh (s : State) : Host.Outcome State Fault Refusal := .next (lineOp .dc .high s)

/-- `RD_LOW`: opens the probe window (R97). -/
def execRdLow (s : State) : Host.Outcome State Fault Refusal := .next (lineOp .rd .low s)

/-- `RD_HIGH`: closes the probe window (R98). -/
def execRdHigh (s : State) : Host.Outcome State Fault Refusal := .next (lineOp .rd .high s)

end Sys2Proof.Machine
end

