-- ==== Sys2Proof/Machine/PortOps.lean ====
section
/-! DEFINITION. The four port micro-operations (40_pin_microops.md R99 to R102). None can fail (20_memory.md R56). -/

namespace Sys2Proof.Machine

/-- `CFG_OUT` (R99). -/
def execCfgOut (s : State) : Host.Outcome State Fault Refusal := .next (configureOut s)

/-- `CFG_IN` (R100). -/
def execCfgIn (s : State) : Host.Outcome State Fault Refusal := .next (configureIn s)

/-- `ODR_WRITE(v)` (R101). -/
def execOdrWrite (v : Word32) (s : State) : Host.Outcome State Fault Refusal := .next (writeOdr v s)

/-- `IDR_READ` (R102). -/
def execIdrRead (s : State) : Host.Outcome State Fault Refusal := .next (readIdr s)

end Sys2Proof.Machine
end

