-- ==== Sys2Proof/Machine/Dispatch.lean ====
section
/-! DEFINITION. One arm per constructor of Instr, each a direct call of its meaning. -/

namespace Sys2Proof.Machine

def exec (i : Instr) (s : State) : Host.Outcome State Fault Refusal :=
  match i with
  | .init => Sys2Proof.Machine.execInit s
  | .sendCmdU8 => Sys2Proof.Machine.execSendCmdU8 s
  | .sendCmdU16 => Sys2Proof.Machine.execSendCmdU16 s
  | .sendCmdU16BE => Sys2Proof.Machine.execSendCmdU16BE s
  | .sendCmdU16LE => Sys2Proof.Machine.execSendCmdU16LE s
  | .sendCmdU8Iter => Sys2Proof.Machine.execSendCmdU8Iter s
  | .sendCmdU16Iter => Sys2Proof.Machine.execSendCmdU16Iter s
  | .sendCmdU16BEIter => Sys2Proof.Machine.execSendCmdU16BEIter s
  | .sendCmdU16LEIter => Sys2Proof.Machine.execSendCmdU16LEIter s
  | .sendCmdUnsupported c => Sys2Proof.Machine.execSendCmdUnsupported c s
  | .sendDataU8 => Sys2Proof.Machine.execSendDataU8 s
  | .sendDataU16 => Sys2Proof.Machine.execSendDataU16 s
  | .sendDataU16BE => Sys2Proof.Machine.execSendDataU16BE s
  | .sendDataU16LE => Sys2Proof.Machine.execSendDataU16LE s
  | .sendDataU8Iter => Sys2Proof.Machine.execSendDataU8Iter s
  | .sendDataU16Iter => Sys2Proof.Machine.execSendDataU16Iter s
  | .sendDataU16BEIter => Sys2Proof.Machine.execSendDataU16BEIter s
  | .sendDataU16LEIter => Sys2Proof.Machine.execSendDataU16LEIter s
  | .sendDataUnsupported c => Sys2Proof.Machine.execSendDataUnsupported c s
  | .release => Sys2Proof.Machine.execRelease s
  | .csLow => Sys2Proof.Machine.execCsLow s
  | .csHigh => Sys2Proof.Machine.execCsHigh s
  | .wrLow => Sys2Proof.Machine.execWrLow s
  | .wrHigh => Sys2Proof.Machine.execWrHigh s
  | .dcLow => Sys2Proof.Machine.execDcLow s
  | .dcHigh => Sys2Proof.Machine.execDcHigh s
  | .rdLow => Sys2Proof.Machine.execRdLow s
  | .rdHigh => Sys2Proof.Machine.execRdHigh s
  | .cfgOut => Sys2Proof.Machine.execCfgOut s
  | .cfgIn => Sys2Proof.Machine.execCfgIn s
  | .odrWrite v => Sys2Proof.Machine.execOdrWrite v s
  | .idrRead => Sys2Proof.Machine.execIdrRead s
  | .driveWord w => Sys2Proof.Machine.execDriveWord w s
  | .writeSequence => Sys2Proof.Machine.execWriteSequence s
  | .writePayload => Sys2Proof.Machine.execWritePayload s

end Sys2Proof.Machine
end

