-- ==== Sys2Proof/Machine/Sequencer.lean ====
section
/-! DEFINITION. The sequencer: which operation it issues in each SEQ state (the fetch of BW16), what the host's next action
is, and the transitions of 42_data_format_adapter.md R134 and 41_bus_writer.md R110, R112 that a step makes around the
operation it issued. -/

namespace Sys2Proof.Machine

/-- The micro-operation of each INIT micro-step (R112); the order of micro-steps 2 and 3 is the parameter of D10. -/
def initOp (order : InitOrder) : InitStep → Instr
  | .m1 => .cfgOut
  | .m2 => match order with | .dcFirst => .dcLow | .rdFirst => .rdHigh
  | .m3 => match order with | .dcFirst => .rdHigh | .rdFirst => .dcLow
  | .m4 => .csLow
  | .m5 => .wrLow
  | .m6 => .odrWrite 0x00000000#32
  | .m7 => .wrHigh
  | .m8 => .csHigh
  | .m9 => .cfgIn
  | .m10 => .csLow
  | .m11 => .dcHigh
  | .m12 => .rdLow
  | .m13 => .idrRead
  | .m14 => .rdHigh
  | .m15 => .csHigh
  | .m16 => .cfgOut

/-- The micro-step after this one; none after micro-step 16 (R112). -/
def InitStep.next : InitStep → Option InitStep
  | .m1 => some .m2
  | .m2 => some .m3
  | .m3 => some .m4
  | .m4 => some .m5
  | .m5 => some .m6
  | .m6 => some .m7
  | .m7 => some .m8
  | .m8 => some .m9
  | .m9 => some .m10
  | .m10 => some .m11
  | .m11 => some .m12
  | .m12 => some .m13
  | .m13 => some .m14
  | .m14 => some .m15
  | .m15 => some .m16
  | .m16 => none

/-- The micro-operation of each step of DRIVE_WORD(w) (R110). -/
def wordOp (w : Word16) : WordStep → Instr
  | .d1 => .csLow
  | .d2 => .wrLow
  | .d3 => .odrWrite (zext32 w)
  | .d4 => .wrHigh
  | .d5 => .csHigh

/-- The operation the sequencer issues in each SEQ state (R34, R134); none in Idle. -/
def issued (order : InitOrder) : SeqState → Option Instr
  | .idle => none
  | .initStep k => some (initOp order k)
  | .dcPending .cmd _ => some .dcLow
  | .dcPending .data _ => some .dcHigh
  | .dcSet _ => some .writePayload
  | .fetch _ _ => some .writeSequence
  | .writing _ w k _ => some (wordOp w k)

/-- The next INIT micro-step, or INIT's end: `LIFE <- Ready; SEQ <- Idle; emit(Ret(Ok))` (R112). -/
def afterInitStep (k : InitStep) (s : State) : State :=
  match k.next with
  | some k' => s.withSeq (.initStep k')
  | none => finish .ok (s.withLife .ready)

/-- The next step of the word, a raise, or the next pull (R110, R134), on answer `a`. -/
def afterWordStep (i : Nat) (w : Word16) (k : WordStep) (ws : WordSeq) (a : Answer) (s : State) : State :=
  match k with
  | .d1 => raiseOr (raised .cs a) (fun t => t.withSeq (.writing i w .d2 ws)) s
  | .d2 => raiseOr (raised .wr a) (fun t => t.withSeq (.writing i w .d3 ws)) s
  | .d3 => s.withSeq (.writing i w .d4 ws)
  | .d4 => raiseOr (raised .wr a) (fun t => t.withSeq (.writing i w .d5 ws)) s
  | .d5 => raiseOr (raised .cs a) (fun t => t.withSeq (.fetch (i + 1) ws)) s

/-- The transition of SEQ after the operation issued in `old` made `s`, on the answer `a` it got (R134). INIT discards
every answer (R169, D9). The host operations, WRITE_PAYLOAD and WRITE_SEQUENCE set SEQ themselves. -/
def advance (old : SeqState) (a : Answer) (s : State) : State :=
  match old with
  | .idle => s
  | .initStep k => afterInitStep k s
  | .dcPending _ p => raiseOr (raised .dc a) (fun t => t.withSeq (.dcSet p)) s
  | .dcSet _ => s
  | .fetch _ _ => s
  | .writing i w k ws => afterWordStep i w k ws a s

/-- Whether the host lets the running operation return before this event (R182 a). -/
def HostEvent.waits : HostEvent → Bool
  | .op _ _ waits => waits
  | .reset waits => waits

/-- The host's event that comes now: the first one, in Idle or if the host does not wait (R163, R182, R191). -/
def hostDue (s : State) : Option HostEvent :=
  match s.inbox.next with
  | none => none
  | some (e, _) => if s.seq.isIdle || !e.waits then some e else none

/-- Reset from outside (R180, R42): every item of state at its reset value. The oracles' counters go on and the host's
plan and the parameters stand. Log entry 10. -/
def resetEvent (s : State) : State :=
  { State.reset with
    lineCount := s.lineCount, idrCount := s.idrCount, inbox := s.inbox.rest, params := s.params }

/-- What the next step is about. -/
inductive Fetched where
  /-- Idle, and the host asks for nothing (R168). -/
  | rest
  /-- A reset from outside, and the state it leaves (R180). -/
  | reset (s : State)
  /-- A request that is refused before it is an operation. -/
  | reject (r : Refusal)
  /-- An operation to run, and the state it starts from. -/
  | run (i : Instr) (s : State)
  deriving DecidableEq, Repr

/-- The fetch of BW16 (R61): the host's due event, decoded and with its payload at the interface, or else the operation
the sequencer issues. -/
def fetchNext (s : State) : Fetched :=
  match hostDue s with
  | some (.op h data _) =>
    match decodeHeader h with
    | .ok i => .run i ((s.withInbox s.inbox.rest).withOffer data)
    | .error _ => .reject (.invalidHeader h)
  | some (.reset _) => if s.seq.isIdle then .reset (resetEvent s) else .reject .resetWhileBusy
  | none =>
    match issued s.params.initOrder s.seq with
    | some i => .run i s
    | none => .rest

/-- The SEQ state that issues a format M operation, for placing one (log entry 14): DRIVE_WORD at its step 1. -/
def seqFor : Instr → SeqState
  | .csLow => .writing 0 0#16 .d1 ⟨.word, ElemStream.empty⟩
  | .csHigh => .writing 0 0#16 .d5 ⟨.word, ElemStream.empty⟩
  | .wrLow => .writing 0 0#16 .d2 ⟨.word, ElemStream.empty⟩
  | .wrHigh => .writing 0 0#16 .d4 ⟨.word, ElemStream.empty⟩
  | .odrWrite v => .writing 0 (v.extractLsb' 0 16) .d3 ⟨.word, ElemStream.empty⟩
  | .driveWord w => .writing 0 w .d1 ⟨.word, ElemStream.empty⟩
  | .dcLow => .dcPending .cmd ⟨.u16, ElemStream.empty⟩
  | .dcHigh => .dcPending .data ⟨.u16, ElemStream.empty⟩
  | .rdLow => .initStep .m12
  | .rdHigh => .initStep .m14
  | .cfgOut => .initStep .m16
  | .cfgIn => .initStep .m9
  | .idrRead => .initStep .m13
  | .writePayload => .dcSet ⟨.u16, ElemStream.empty⟩
  | .writeSequence => .fetch 0 ⟨.word, ElemStream.empty⟩
  | .init => .idle
  | .sendCmdU8 => .idle
  | .sendCmdU16 => .idle
  | .sendCmdU16BE => .idle
  | .sendCmdU16LE => .idle
  | .sendCmdU8Iter => .idle
  | .sendCmdU16Iter => .idle
  | .sendCmdU16BEIter => .idle
  | .sendCmdU16LEIter => .idle
  | .sendCmdUnsupported _ => .idle
  | .sendDataU8 => .idle
  | .sendDataU16 => .idle
  | .sendDataU16BE => .idle
  | .sendDataU16LE => .idle
  | .sendDataU8Iter => .idle
  | .sendDataU16Iter => .idle
  | .sendDataU16BEIter => .idle
  | .sendDataU16LEIter => .idle
  | .sendDataUnsupported _ => .idle
  | .release => .idle

/-- The value of LIFE in which an operation can be in progress or be accepted: Uninit for INIT and its micro-steps, Ready
for the rest (R112, R162). -/
def lifeFor : Instr → Lifecycle
  | .init => .uninit
  | .sendCmdU8 => .ready
  | .sendCmdU16 => .ready
  | .sendCmdU16BE => .ready
  | .sendCmdU16LE => .ready
  | .sendCmdU8Iter => .ready
  | .sendCmdU16Iter => .ready
  | .sendCmdU16BEIter => .ready
  | .sendCmdU16LEIter => .ready
  | .sendCmdUnsupported _ => .ready
  | .sendDataU8 => .ready
  | .sendDataU16 => .ready
  | .sendDataU16BE => .ready
  | .sendDataU16LE => .ready
  | .sendDataU8Iter => .ready
  | .sendDataU16Iter => .ready
  | .sendDataU16BEIter => .ready
  | .sendDataU16LEIter => .ready
  | .sendDataUnsupported _ => .ready
  | .release => .ready
  | .csLow => .ready
  | .csHigh => .ready
  | .wrLow => .ready
  | .wrHigh => .ready
  | .dcLow => .ready
  | .dcHigh => .ready
  | .rdLow => .uninit
  | .rdHigh => .uninit
  | .cfgOut => .uninit
  | .cfgIn => .uninit
  | .odrWrite _ => .ready
  | .idrRead => .uninit
  | .driveWord _ => .ready
  | .writeSequence => .ready
  | .writePayload => .ready

/-- `s` with instruction `i` as the next one `step` runs: a host operation is put at the head of the inbox of an idle
BW16 in the LIFE that accepts it; for a format M operation SEQ is the state that issues it. Log entry 14. -/
def State.placed (s : State) (i : Instr) : State :=
  match encode i with
  | .header h => ((s.withSeq .idle).withLife (lifeFor i)).withInbox (s.inbox.push (.op h ElemStream.empty true))
  | .micro _ _ => ((s.withSeq (seqFor i)).withLife (lifeFor i)).withInbox HostPlan.empty

end Sys2Proof.Machine
end

