-- ==== Sys2Proof/Machine/Step.lean ====
section
/-! DEFINITION. One step of BW16 (00_scope.md R7): one micro-operation or one host-side event. -/

namespace Sys2Proof.Machine

/-- Fetch, run, and move SEQ on. Idle with nothing asked, BW16 "sits in `SEQ = Idle` holding its outputs" (R168). -/
def step (s : State) : Host.Outcome State Fault Refusal :=
  match fetchNext s with
  | .rest => .next s
  | .reset t => .next t
  | .reject r => .refused r
  | .run i t =>
    match exec i t with
    | .next u => .next (advance t.seq t.nextAnswer u)
    | .fault f => .fault f
    | .refused r => .refused r

/-- `s` with the instruction of a table word where `step` fetches its next one (log entry 14). -/
def State.withFetchWord (s : State) (nbits w : Nat) : State :=
  match decodeTableWord nbits w with
  | some i => s.placed i
  | none => s

end Sys2Proof.Machine
end

