-- ==== Sys2Proof/Machine/Observe.lean ====
section
/-! DEFINITION. What the outside world can see of BW16, as functions of the state and of the trace: the bus pins
(10_state.md R32), the replay of the trace (R11, R38) and the latch log (R38). -/

namespace Sys2Proof.Machine

/-- What is on one bus pin as far as BW16 is concerned (R32). -/
inductive PinLevel where
  /-- MODE is Unknown: nothing is known of the pin. -/
  | unknown
  /-- The line is an input: the pin carries what the port environment drives. -/
  | environment
  /-- The line is an output and ODR is Unknown: an unknown level is driven. -/
  | drivenUnknown
  /-- The line is an output: bit `i` of ODR is driven. -/
  | driven (bit : Bool)
  deriving DecidableEq, Repr

/-- The bus pin `D[i]` (R32, R54). Exact while BW16 owns the port (R40). -/
def State.pin (s : State) (i : Fin busLines) : PinLevel :=
  match s.mode with
  | .unknown => .unknown
  | .known m =>
    match m[i] with
    | .input => .environment
    | .output =>
      match s.odr with
      | .unknown => .drivenUnknown
      | .known v => .driven (v.getLsbD i.val)

/-- The part of the state that the pin-side events determine (R11). -/
structure View where
  lines : Lines
  mode : Cfg (Vector Mode busLines)
  pull : Cfg (Vector PullSetting busLines)
  speed : Cfg (Vector SpeedSetting busLines)
  odr : Cfg Word32
  idSample : Cfg Word16
  deriving DecidableEq, Repr

def State.view (s : State) : View := ⟨s.lines, s.mode, s.pull, s.speed, s.odr, s.idSample⟩

/-- The view before any event (R42). -/
def View.reset : View := ⟨⟨.unknown, .unknown, .unknown, .unknown⟩, .unknown, .unknown, .unknown, .unknown, .unknown⟩

/-- One event of the trace, replayed by the micro-operation rules (R38, R90, R99 to R102). -/
def View.apply (policy : FailLevelPolicy) (v : View) : Event → View
  | .lineOp l lvl a => { v with lines := v.lines.set l (levelAfter policy a lvl (v.lines.get l)) }
  | .cfgOut =>
    { v with
      mode := .known (Vector.replicate busLines .output)
      pull := .known Config.pullAlt
      speed := .known (Vector.replicate busLines Config.speedMax) }
  | .cfgIn => { v with mode := .known (Vector.replicate busLines .input) }
  | .odrWrite x => { v with odr := .known x }
  | .idrRead x => { v with idSample := .known (x.extractLsb' 0 16) }
  | .accept _ => v
  | .pull _ _ => v
  | .ret _ => v

/-- Replay of a trace from the reset state (R38). -/
def replay (policy : FailLevelPolicy) (T : List Event) : View := T.foldl (View.apply policy) View.reset

/-- Whether the rising WR edge of a latch entry happened or may have happened (R38). -/
inductive Edge where
  | certain
  | possible
  deriving DecidableEq, Repr

/-- An entry of the latch log, its fields taken just before the event (R38). -/
structure Latch where
  edge : Edge
  dc : LineState
  cs : LineState
  rd : LineState
  mode : Cfg (Vector Mode busLines)
  data : Cfg Word16
  deriving DecidableEq, Repr

/-- Which edge a `LineOp(WR, High, a)` makes, from the level of WR before it (R38). -/
def edgeOf (policy : FailLevelPolicy) (prev : LineState) (a : Answer) : Option Edge :=
  match prev with
  | .known .high => none
  | .known .low =>
    match a with
    | .ok => some .certain
    | .fail => match policy with | .unchanged => none | .unknown => some .possible
  | .unknown =>
    match a with
    | .ok => some .possible
    | .fail => match policy with | .unchanged => none | .unknown => some .possible

/-- `ODR[15:0]`. -/
def lowHalf : Cfg Word32 → Cfg Word16
  | .unknown => .unknown
  | .known v => .known (v.extractLsb' 0 16)

/-- The latch entry with edge `e` of a view (R38). -/
def latchEntry (v : View) (e : Edge) : Latch := ⟨e, v.lines.dc, v.lines.cs, v.lines.rd, v.mode, lowHalf v.odr⟩

/-- What one event adds to the latch log: only a `LineOp(WR, High, a)` can add an entry (R38, R94). -/
def latchOf (policy : FailLevelPolicy) (v : View) : Event → Option Latch
  | .lineOp .wr .high a => (edgeOf policy v.lines.wr a).map (latchEntry v)
  | .lineOp .wr .low _ => none
  | .lineOp .dc _ _ => none
  | .lineOp .cs _ _ => none
  | .lineOp .rd _ _ => none
  | .cfgOut => none
  | .cfgIn => none
  | .odrWrite _ => none
  | .idrRead _ => none
  | .accept _ => none
  | .pull _ _ => none
  | .ret _ => none

/-- The latch log of the events `T` that follow a view. -/
def latchLogFrom (policy : FailLevelPolicy) (v : View) : List Event → List Latch
  | [] => []
  | e :: T => (latchOf policy v e).toList ++ latchLogFrom policy (v.apply policy e) T

/-- The latch log L: "a function of `T` and of nothing else" (R38), under the policy of the run. -/
def latchLog (policy : FailLevelPolicy) (T : List Event) : List Latch := latchLogFrom policy View.reset T

/-- The latch log of a state's run. -/
def State.latches (s : State) : List Latch := latchLog s.params.failLevel s.trace

end Sys2Proof.Machine
end

