-- ==== Sys2Proof/Safety.lean ====
section
/-! DEFINITION. The terms the claims are stated in: the host's duties and the environment's answers as premises
(00_scope.md R10, 70_reset_and_hazards.md R182), the invariants of a run, the event lists the spec's rules give, and
what two states share. -/

namespace Sys2Proof.Machine

/-- Whether the next event of a plan, if any, waits for the running operation (R182 a). -/
def HostPlan.waits (p : HostPlan) : Bool :=
  match p.next with
  | none => true
  | some (e, _) => e.waits

/-- Duty R182 (a), as far as the next step can see it: the host's next event, if any, waits for the running operation. -/
def State.hostWaits (s : State) : Bool :=
  s.inbox.waits

/-- The answer of the `j`-th line operation from here. -/
def State.ans (s : State) (j : Nat) : Answer := s.lineAnswer (s.lineCount + j)

/-- "`LineAnswer(n) = ok`" for the next `n` line operations: the premise R10 names, as far as an operation needs it. -/
def AnswersOk (s : State) (n : Nat) : Prop := ∀ j < n, s.ans j = .ok

/-- `k` steps, one after another, stopping at the first fault or refusal (R191). -/
def runSteps : Nat → State → Host.Outcome State Fault Refusal
  | 0, s => .next s
  | k + 1, s =>
    match step s with
    | .next t => runSteps k t
    | .fault f => .fault f
    | .refused r => .refused r

/-- SEQ and LIFE agree: INIT runs in Uninit, a send operation in Ready (R33, R112, R116, R162). -/
def SeqLifeAgree (s : State) : Prop :=
  (∀ k, s.seq = .initStep k → s.life = .uninit) ∧
  (∀ kind p, s.seq = .dcPending kind p → s.life = .ready) ∧
  (∀ p, s.seq = .dcSet p → s.life = .ready) ∧
  (∀ i ws, s.seq = .fetch i ws → s.life = .ready) ∧
  (∀ i w k ws, s.seq = .writing i w k ws → s.life = .ready)

/-- `ODR[31:16]` is zero once ODR is known (R30). -/
def OdrUpperZero (s : State) : Prop := ∀ v, s.odr = .known v → v.extractLsb' 16 16 = 0#16

/-- All 16 entries of MODE are equal once it is known, PULL and SPEED hold only the settings of `CFG_OUT` (R27 to R29). -/
def PortUniform (s : State) : Prop :=
  (s.mode = .unknown ∨ s.mode = .known (Vector.replicate busLines .output) ∨
    s.mode = .known (Vector.replicate busLines .input)) ∧
  (s.pull = .unknown ∨ s.pull = .known Config.pullAlt) ∧
  (s.speed = .unknown ∨ s.speed = .known (Vector.replicate busLines Config.speedMax))

/-- The lines and registers are what the trace makes of the reset state (R11, R37). -/
def TraceTellsAll (s : State) : Prop := s.view = replay s.params.failLevel s.trace

/-- No operation has returned `Err(ChipSelectError)` (R151). -/
def NoChipSelectResult (s : State) : Prop := Event.ret (.err .chipSelectError) ∉ s.trace

/-- The bus is input from INIT's `CFG_IN` to its second `CFG_OUT`, and RD is known low only while micro-steps 13 and 14 are
to come (R63, R97, R186). -/
def ProbeWindowSafe (s : State) : Prop :=
  (∀ k ∈ [InitStep.m10, .m11, .m12, .m13, .m14, .m15, .m16],
    s.seq = .initStep k → s.mode = .known (Vector.replicate busLines .input)) ∧
  (s.lines.rd = .known .low → s.seq = .initStep .m13 ∨ s.seq = .initStep .m14)

/-- The five events of one word, with the answers of its four line operations (R110, R118). -/
def wordEvents (a1 a2 a4 a5 : Answer) (w : Word16) : List Event :=
  [.lineOp .cs .low a1, .lineOp .wr .low a2, .odrWrite (zext32 w), .lineOp .wr .high a4, .lineOp .cs .high a5]

/-- How many of its five steps a DRIVE_WORD runs, from its WR_LOW and WR_HIGH answers (R110, R118). -/
def wordStepCount : Answer → Answer → Nat
  | .fail, _ => 2
  | .ok, .fail => 4
  | .ok, .ok => 5

/-- The events of the whole words of a payload, from element index `i` and line operation `n` (R133): each pull, then the
five events of its word. -/
def wordsEvents (ans : Nat → Answer) : Nat → Nat → List Elem → List Event
  | _, _, [] => []
  | n, i, e :: es =>
    .pull i (.elem e) :: (wordEvents (ans n) (ans (n + 1)) (ans (n + 2)) (ans (n + 3)) (wordOf e) ++
      wordsEvents ans (n + 4) (i + 1) es)

/-- The 18 events of an INIT (R112), in the spec's order of micro-steps 2 and 3. -/
def initEvents (ans : Nat → Answer) (v : Word32) : List Event :=
  [.accept 0x00#8, .cfgOut, .lineOp .dc .low (ans 0), .lineOp .rd .high (ans 1), .lineOp .cs .low (ans 2),
    .lineOp .wr .low (ans 3), .odrWrite 0x00000000#32, .lineOp .wr .high (ans 4), .lineOp .cs .high (ans 5),
    .cfgIn, .lineOp .cs .low (ans 6), .lineOp .dc .high (ans 7), .lineOp .rd .low (ans 8), .idrRead v,
    .lineOp .rd .high (ans 9), .lineOp .cs .high (ans 10), .cfgOut, .ret .ok]

/-- The recorded level of a line after its own operations, in order, each with its answer (R90). -/
def lineAfter (policy : FailLevelPolicy) (old : LineState) (ops : List (Level × Answer)) : LineState :=
  ops.foldl (fun v o => levelAfter policy o.2 o.1 v) old

/-- The payload `d` delivers the elements `xs`, one pull each, and is then at `e` (R60). -/
def Delivers : ElemStream → List Word16 → ElemStream → Prop
  | d, [], e => d = e
  | d, x :: xs, e => ∃ d', d.next = some (x, d') ∧ Delivers d' xs e

/-- A host sequence that goes on for ever: a cycle, or a lazy sequence each of whose items is there (R139, R190). -/
def Endless {α : Type} (lazyAt : Nat → Nat → Option α) : Tail α → Prop
  | .ended => False
  | .cycle _ _ => True
  | .lazy id k => ∀ j, (lazyAt id (k + j)).isSome = true

/-- Whether an event is a line operation of `l`. -/
def Event.drives (l : LineId) : Event → Bool
  | .lineOp l' _ _ => l' = l
  | .accept _ => false
  | .pull _ _ => false
  | .ret _ => false
  | .cfgOut => false
  | .cfgIn => false
  | .odrWrite _ => false
  | .idrRead _ => false

/-- Whether an event is a result (R37). -/
def Event.isRet : Event → Bool
  | .ret _ => true
  | .lineOp _ _ _ => false
  | .accept _ => false
  | .pull _ _ => false
  | .cfgOut => false
  | .cfgIn => false
  | .odrWrite _ => false
  | .idrRead _ => false

/-- The header, kind and tag of a send operation's constructor, as R72 and R73 tabulate them. -/
structure SendRow where
  op : Instr
  header : Byte
  kind : SendKind
  fmt : Fmt
  deriving DecidableEq, Repr

/-- The 18 send operations (R72, R73); `c` is the low part of an unsupported tag. -/
def sendRows (c : BitVec 3) : List SendRow :=
  [⟨.sendCmdU8, 0x10#8, .cmd, .u8⟩, ⟨.sendCmdU16, 0x11#8, .cmd, .u16⟩, ⟨.sendCmdU16BE, 0x12#8, .cmd, .u16be⟩,
    ⟨.sendCmdU16LE, 0x13#8, .cmd, .u16le⟩, ⟨.sendCmdU8Iter, 0x14#8, .cmd, .u8Iter⟩,
    ⟨.sendCmdU16Iter, 0x15#8, .cmd, .u16Iter⟩, ⟨.sendCmdU16BEIter, 0x16#8, .cmd, .u16beIter⟩,
    ⟨.sendCmdU16LEIter, 0x17#8, .cmd, .u16leIter⟩, ⟨.sendCmdUnsupported c, 0b00011#5 ++ c, .cmd, .other c⟩] ++
  [⟨.sendDataU8, 0x20#8, .data, .u8⟩, ⟨.sendDataU16, 0x21#8, .data, .u16⟩, ⟨.sendDataU16BE, 0x22#8, .data, .u16be⟩,
    ⟨.sendDataU16LE, 0x23#8, .data, .u16le⟩, ⟨.sendDataU8Iter, 0x24#8, .data, .u8Iter⟩,
    ⟨.sendDataU16Iter, 0x25#8, .data, .u16Iter⟩, ⟨.sendDataU16BEIter, 0x26#8, .data, .u16beIter⟩,
    ⟨.sendDataU16LEIter, 0x27#8, .data, .u16leIter⟩, ⟨.sendDataUnsupported c, 0b00101#5 ++ c, .data, .other c⟩]

/-- One line micro-operation: its constructor, line and level (R78, R91 to R98). -/
structure LineRow where
  op : Instr
  line : LineId
  level : Level
  deriving DecidableEq, Repr

/-- The eight line micro-operations. -/
def lineRows : List LineRow :=
  [⟨.csLow, .cs, .low⟩, ⟨.csHigh, .cs, .high⟩, ⟨.wrLow, .wr, .low⟩, ⟨.wrHigh, .wr, .high⟩,
    ⟨.dcLow, .dc, .low⟩, ⟨.dcHigh, .dc, .high⟩, ⟨.rdLow, .rd, .low⟩, ⟨.rdHigh, .rd, .high⟩]

/-- Two states with the same control: everything but the levels, the port registers, the sample and the level policy, which
no rule of BW16 reads (R21, R42). -/
def SameControl (s t : State) : Prop :=
  s.life = t.life ∧ s.seq = t.seq ∧ s.trace = t.trace ∧ s.lineCount = t.lineCount ∧ s.idrCount = t.idrCount ∧
  s.offer = t.offer ∧ s.inbox = t.inbox ∧ s.params.initOrder = t.params.initOrder ∧
  s.params.lineScript = t.params.lineScript ∧ s.params.idrScript = t.params.idrScript

/-- Two outcomes with the same control: next states that have it, or the same stop. -/
def SameOutcome : Host.Outcome State Fault Refusal → Host.Outcome State Fault Refusal → Prop
  | .next s, .next t => SameControl s t
  | .fault f, .fault g => f = g
  | .refused r, .refused q => r = q
  | _, _ => False

end Sys2Proof.Machine
end

