-- ==== Sys2Proof/Certificates/Slice0/Obligations.lean ====
section
/-! DEFINITION. The statements for the provers. Each docstring names the rule of spec/ it states; a statement that rests on
a decision the spec marks as its own (92_eei_decisions.md) or on a log entry says so. Runs are
`runSteps`; "the host waits" is `hostWaits`, the host's duty R182 (a). -/

open Sys2Proof Sys2Proof.Machine

/-! ## Encoding and decoding -/

/-- Decoding the encoding of a well-formed instruction gives it back, with every operand (R70 to R73, R78). -/
def Obligations.DecodeOfEncodeIsIdentity : Prop :=
  ∀ i : Instr, i.wellFormed = true → decode (encode i) = .ok i

/-- What decodes is well formed and is the only encoding of its instruction: no two encodings of one instruction. The
operand beside a format M code is the model's layout (log entry 12). -/
def Obligations.EncodeOfDecodeIsIdentity : Prop :=
  ∀ (w : OpWord) (i : Instr), decode w = .ok i → encode i = w ∧ i.wellFormed = true

/-- The header space of R82: which header is which operation, and every header from 0x01 to 0x0F and from 0x31 up is
invalid, "the other 222 values". The bits are the spec's decision D3. -/
def Obligations.HeaderSpaceIsTotal : Prop :=
  decodeHeader 0x00#8 = .ok .init ∧ decodeHeader 0x30#8 = .ok .release ∧
  (∀ c, ∀ r ∈ sendRows c, decodeHeader r.header = .ok r.op) ∧
  (∀ h : Byte, (0x01 ≤ h.toNat ∧ h.toNat ≤ 0x0F) ∨ 0x31 ≤ h.toNat → decodeHeader h = .error (.invalidHeader h)) ∧
  (∀ h : Byte, 0x10 ≤ h.toNat ∧ h.toNat ≤ 0x2F → ∃ c, ∃ r ∈ sendRows c, r.header = h)

/-- A few words written out from R72, R73 and R78 decode to the instruction they stand for. The bits of headers and codes are
the spec's decisions D3 and D5; the operand beside a code, zero where a code has none and DRIVE_WORD's word in its low
half, is the model's layout (log entry 12). -/
def Obligations.WrittenOutWordsDecode : Prop :=
  decodeHeader 0b00000000#8 = .ok .init ∧ decodeHeader 0b00010110#8 = .ok .sendCmdU16BEIter ∧
  decodeHeader 0b00100011#8 = .ok .sendDataU16LE ∧ decodeHeader 0b00101101#8 = .ok (.sendDataUnsupported 0b101#3) ∧
  decodeHeader 0b00110000#8 = .ok .release ∧ decodeMicro 0b0101#4 0#32 = .ok .dcHigh ∧
  decodeMicro 0b0110#4 0#32 = .ok .rdLow ∧ decodeMicro 0b0011#4 0#32 = .ok .wrHigh ∧
  decodeMicro 0b1010#4 0x00005555#32 = .ok (.odrWrite 0x00005555#32) ∧
  decodeMicro 0b1100#4 0x0000AAAA#32 = .ok (.driveWord 0xAAAA#16) ∧
  decodeMicro 0b1111#4 0#32 = .error .reservedCode

/-- Operand assembly (R75): a byte element is zero-extended, a word element goes verbatim, and ODR gets the word with its
upper half zero. Nothing is sign-extended, packed or truncated. -/
def Obligations.OperandAssemblyZeroExtends : Prop :=
  (∀ b : Byte, (wordOf (.byte b)).toNat = b.toNat) ∧
  (∀ w : Word16, wordOf (.word w) = w) ∧
  (∀ w : Word16, (zext32 w).toNat = w.toNat ∧ (zext32 w).extractLsb' 0 16 = w ∧ (zext32 w).extractLsb' 16 16 = 0#16)

/-! ## Micro-operations -/

/-- `LineOp(L, lvl)` for each of the eight line micro-operations (R90 to R98): one answer is taken, the level is `lvl` if
ok, and after a fail what FAIL_LEVEL_POLICY says (a parameter; the default is D7's); the event is appended whatever the
level was; everything else is unchanged. -/
def Obligations.LineOperationOutcome : Prop :=
  ∀ (s : State), ∀ r ∈ lineRows, ∃ t, exec r.op s = .next t ∧
    (s.lineAnswer s.lineCount = .ok → t.lines.get r.line = .known r.level) ∧
    (s.lineAnswer s.lineCount = .fail → s.params.failLevel = .unchanged → t.lines.get r.line = s.lines.get r.line) ∧
    (s.lineAnswer s.lineCount = .fail → s.params.failLevel = .unknown → t.lines.get r.line = .unknown) ∧
    (∀ l, l ≠ r.line → t.lines.get l = s.lines.get l) ∧
    t = { s with lines := t.lines, lineCount := s.lineCount + 1,
                 trace := s.trace ++ [.lineOp r.line r.level (s.lineAnswer s.lineCount)] }

/-- `CFG_OUT` (R99, R53): all 16 lines become output in one action, with PULL_ALT and SPEED_MAX; ODR and everything else is
untouched. -/
def Obligations.CfgOutConfiguresAllLines : Prop :=
  ∀ s : State, ∃ t m, exec .cfgOut s = .next t ∧ t.mode = .known m ∧ (∀ i : Fin busLines, m[i] = .output) ∧
    t.pull = .known Config.pullAlt ∧ (∃ v, t.speed = .known v ∧ ∀ i : Fin busLines, v[i] = Config.speedMax) ∧
    t = { s with mode := t.mode, pull := t.pull, speed := t.speed, trace := s.trace ++ [.cfgOut] }

/-- `CFG_IN` (R100): all 16 lines become input in one action; that PULL, SPEED and ODR keep their values is the spec's
decision D11. BW16 then drives no pin. -/
def Obligations.CfgInChangesModeOnly : Prop :=
  ∀ s : State, ∃ t m, exec .cfgIn s = .next t ∧ t.mode = .known m ∧ (∀ i : Fin busLines, m[i] = .input) ∧
    (∀ i : Fin busLines, t.pin i = .environment) ∧
    t = { s with mode := t.mode, trace := s.trace ++ [.cfgIn] }

/-- `MemWrite(ODR, 4, v)`, the access of `ODR_WRITE(v)` (R51): the whole register is written, also when it held `v`; it cannot
fail, and nothing else changes but the event. Every value the sequencer writes has a zero upper half. -/
def Obligations.OdrWriteWritesWholeRegister : Prop :=
  (∀ (s : State) (v : Word32),
    exec (.odrWrite v) s = .next { s with odr := .known v, trace := s.trace ++ [.odrWrite v] }) ∧
  (∀ (order : InitOrder) (q : SeqState) (v : Word32), issued order q = some (.odrWrite v) →
    v.extractLsb' 16 16 = 0#16)

/-- `IDR_READ` (R52, R102): the n-th read returns IdrValue(n), bits 15:0 are sampled and bits 31:16 discarded, and nothing
else changes but the event and the count. That the sample is kept and never validated is the spec's decision D13. -/
def Obligations.IdrReadSamplesLowHalf : Prop :=
  ∀ s : State, ∃ t w, exec .idrRead s = .next t ∧ t.idSample = .known w ∧
    w.toNat = (s.idrValue s.idrCount).toNat % 65536 ∧
    t = { s with idSample := t.idSample, idrCount := s.idrCount + 1,
                 trace := s.trace ++ [.idrRead (s.idrValue s.idrCount)] }

/-- The pins (R32): while MODE is output BW16 drives `D[i] = ODR[i]`, an unknown level while ODR is Unknown; while MODE is
input it drives nothing; while MODE is Unknown nothing is known. The rule is marked derived by the spec. -/
def Obligations.PinsFollowModeAndOdr : Prop :=
  ∀ (s : State) (i : Fin busLines),
    (s.mode = .unknown → s.pin i = .unknown) ∧
    (s.mode = .known (Vector.replicate busLines .input) → s.pin i = .environment) ∧
    (s.mode = .known (Vector.replicate busLines .output) → s.odr = .unknown → s.pin i = .drivenUnknown) ∧
    (∀ v, s.mode = .known (Vector.replicate busLines .output) → s.odr = .known v → s.pin i = .driven (v.getLsbD i.val))

/-! ## Host operations -/

/-- Each of the 18 send operations is accepted in Ready and Idle (R130, R131, R134; headers D3): `Accept(header)`, SEQ is
DcPending with the tag and the stream at the payload interface, and nothing else changes. The interface is left with the
empty stream (log entry 3). -/
def Obligations.SendOperationsAreAccepted : Prop :=
  ∀ (s : State) (c : BitVec 3), s.life = .ready → s.seq = .idle → ∀ r ∈ sendRows c,
    exec r.op s = .next { s with seq := .dcPending r.kind ⟨r.fmt, s.offer⟩, offer := ElemStream.empty,
                                 trace := s.trace ++ [.accept r.header] }

/-- INIT is accepted in Uninit and Idle (R112, R162): `Accept(0x00)`, SEQ is InitStep(1), and nothing else of BW16 changes. The
payload interface is left with the empty stream (the model's choice, log entry 3). -/
def Obligations.InitIsAccepted : Prop :=
  ∀ s : State, s.life = .uninit → s.seq = .idle →
    exec .init s = .next { s with seq := .initStep .m1, offer := ElemStream.empty, trace := s.trace ++ [.accept 0x00#8] }

/-- RELEASE (R115): in Ready and Idle, `Accept(0x30)`, LIFE Released, `Ret(Ok)`; no line is driven and no port register is
written, so all of it stays (D28, R114). The payload interface is left with the empty stream (the model's choice, log
entry 3). -/
def Obligations.ReleaseEndsTheInstance : Prop :=
  ∀ s : State, s.life = .ready → s.seq = .idle →
    exec .release s = .next { s with life := .released, offer := ElemStream.empty,
                                     trace := s.trace ++ [.accept 0x30#8, .ret .ok] }

/-- Every host operation is refused while another is in progress, and in Idle in every LIFE but its own (R162, R163; the
spec's decisions D16, D17). That a request refused for both reasons is refused as busy is the model's choice (log entry
20). -/
def Obligations.HostOperationsRefusedElsewhere : Prop :=
  ∀ (s : State) (c : BitVec 3), ∀ q ∈ (Instr.init, Lifecycle.uninit) :: (Instr.release, Lifecycle.ready) ::
      (sendRows c).map (fun r => (r.op, Lifecycle.ready)),
    (s.seq ≠ .idle → exec q.1 s = .refused .busy) ∧
    (s.seq = .idle → s.life ≠ q.2 → exec q.1 s = .refused (.lifecycle s.life))

/-- What the host may not issue is refused by `step` (R76, R163, R180; D17, D25, U15): an invalid header at any time, any
operation that does not wait for the running one, and a reset in the middle of an operation. An event that does not wait
(`false`) is the model's way of saying so (log entry 2); that an invalid header presented while busy is refused as
invalid, not as busy, is the model's choice (log entry 20). -/
def Obligations.StepRefusesMisuse : Prop :=
  ∀ (s : State) (h : Byte) (data : ElemStream) (w : Bool) (rest : HostPlan),
    (s.inbox.next = some (.op h data w, rest) → (s.seq = .idle ∨ w = false) → decodeHeader h = .error (.invalidHeader h) →
      step s = .refused (.invalidHeader h)) ∧
    (s.inbox.next = some (.op h data false, rest) → s.seq ≠ .idle → (∃ i, decodeHeader h = .ok i) → step s = .refused .busy) ∧
    (s.inbox.next = some (.reset false, rest) → s.seq ≠ .idle → step s = .refused .resetWhileBusy)

/-! ## Inner operations -/

/-- `WRITE_PAYLOAD` (R132, R73): in `DcSet(p)`, a byte or word tag leads to the word sequence of that element width, whatever
its byte order and whether buffer or lazy, and an unsupported tag ends the operation with `UnsupportedFormat`, nothing
pulled. -/
def Obligations.WritePayloadDispatches : Prop :=
  ∀ (s : State) (d : ElemStream),
    (∀ f ∈ [Fmt.u8, .u8Iter], s.seq = .dcSet ⟨f, d⟩ →
      exec .writePayload s = .next { s with seq := .fetch 0 ⟨.byte, d⟩ }) ∧
    (∀ f ∈ [Fmt.u16, .u16be, .u16le, .u16Iter, .u16beIter, .u16leIter], s.seq = .dcSet ⟨f, d⟩ →
      exec .writePayload s = .next { s with seq := .fetch 0 ⟨.word, d⟩ }) ∧
    (∀ c, s.seq = .dcSet ⟨.other c, d⟩ →
      exec .writePayload s = .next { s with seq := .idle, trace := s.trace ++ [.ret (.err .unsupportedFormat)] })

/-- `WRITE_SEQUENCE` (R133, R60, R75), one turn of its loop: in `Fetch(i, ws)` the next element is pulled and its word is
begun, a byte element zero-extended and a word element verbatim; at the end of the payload the operation returns `Ok`. So
for written-out elements, for a cycle that goes on, and for a lazy sequence, whose element is the host's (R61). A byte
element is the low byte of its lane (log entry 6). -/
def Obligations.WriteSequencePullsInOrder : Prop :=
  ∀ (s : State) (i : Nat) (x : Word16) (xs : List Word16) (tl : Tail Word16),
    (s.seq = .fetch i ⟨.byte, ⟨x :: xs, tl⟩⟩ →
      exec .writeSequence s = .next { s with seq := .writing i (zext16 (x.extractLsb' 0 8)) .d1 ⟨.byte, ⟨xs, tl⟩⟩,
                                             trace := s.trace ++ [.pull i (.elem (.byte (x.extractLsb' 0 8)))] }) ∧
    (s.seq = .fetch i ⟨.word, ⟨x :: xs, tl⟩⟩ →
      exec .writeSequence s = .next { s with seq := .writing i x .d1 ⟨.word, ⟨xs, tl⟩⟩,
                                             trace := s.trace ++ [.pull i (.elem (.word x))] }) ∧
    (∀ wd, s.seq = .fetch i ⟨wd, ⟨[], .cycle x xs⟩⟩ →
      exec .writeSequence s = .next { s with seq := .writing i (wordOf (elemOf wd x)) .d1 ⟨wd, ⟨xs, .cycle x xs⟩⟩,
                                             trace := s.trace ++ [.pull i (.elem (elemOf wd x))] }) ∧
    (∀ wd id k, s.seq = .fetch i ⟨wd, ⟨[], .lazy id k⟩⟩ → ∃ t, exec .writeSequence s = .next t ∧
      (∀ y, Config.lazyElem id k = some y →
        t = { s with seq := .writing i (wordOf (elemOf wd y)) .d1 ⟨wd, ⟨[], .lazy id (k + 1)⟩⟩,
                     trace := s.trace ++ [.pull i (.elem (elemOf wd y))] }) ∧
      (Config.lazyElem id k = none → t = { s with seq := .idle, trace := s.trace ++ [.pull i .ended, .ret .ok] })) ∧
    (∀ wd, s.seq = .fetch i ⟨wd, ⟨[], .ended⟩⟩ →
      exec .writeSequence s = .next { s with seq := .idle, trace := s.trace ++ [.pull i .ended, .ret .ok] })

/-- The inner operations stop, by name, outside the precondition the spec gives them (R110 and R116; R132; R133). The names
of the stops are the model's (log entry 15). -/
def Obligations.InnerOperationsStopOutOfPlace : Prop :=
  ∀ s : State,
    ((∀ p, s.seq ≠ .dcSet p) → exec .writePayload s = .fault .outOfSequence) ∧
    ((∀ i ws, s.seq ≠ .fetch i ws) → exec .writeSequence s = .fault .outOfSequence) ∧
    (∀ w, s.life ≠ .ready → exec (.driveWord w) s = .fault .beforeHandshake)

/-- `DRIVE_WORD(w)` with every answer ok (R110 case (a), (g)): the five events, ODR is the word zero-extended, CS and WR end
high, and nothing else changes. Issued outside a send operation, as in vector V30. -/
def Obligations.DriveWordWithAllAnswersOk : Prop :=
  ∀ (s : State) (w : Word16), s.life = .ready → s.seq = .idle →
    s.ans 0 = .ok → s.ans 1 = .ok → s.ans 2 = .ok → s.ans 3 = .ok →
    exec (.driveWord w) s = .next { s with
      lines := ⟨s.lines.dc, .known .high, .known .high, s.lines.rd⟩
      odr := .known (zext32 w)
      lineCount := s.lineCount + 4
      trace := s.trace ++ wordEvents .ok .ok .ok .ok w }

/-- `DRIVE_WORD(w)` for every answer (R110 cases (a) to (e), (g)), issued outside a send operation: the next state whole. Its
events are the first 2, 4 or 5 of the five; ODR is written unless step 2 failed; CS and WR are what their own line
operations leave, a failed one what FAIL_LEVEL_POLICY says (D7); nothing runs after a WR failure (D8); DC, RD and all
else stay. -/
def Obligations.DriveWordForEveryAnswer : Prop :=
  ∀ (s : State) (w : Word16), s.life = .ready → s.seq = .idle →
    (s.ans 1 = .fail → exec (.driveWord w) s = .next { s with
      lines := ⟨s.lines.dc, lineAfter s.params.failLevel s.lines.wr [(.low, .fail)],
        lineAfter s.params.failLevel s.lines.cs [(.low, s.ans 0)], s.lines.rd⟩
      lineCount := s.lineCount + 2
      trace := s.trace ++ (wordEvents (s.ans 0) .fail .ok .ok w).take 2 }) ∧
    (s.ans 1 = .ok → s.ans 2 = .fail → exec (.driveWord w) s = .next { s with
      lines := ⟨s.lines.dc, lineAfter s.params.failLevel s.lines.wr [(.low, .ok), (.high, .fail)],
        lineAfter s.params.failLevel s.lines.cs [(.low, s.ans 0)], s.lines.rd⟩
      odr := .known (zext32 w)
      lineCount := s.lineCount + 3
      trace := s.trace ++ (wordEvents (s.ans 0) .ok .fail .ok w).take 4 }) ∧
    (s.ans 1 = .ok → s.ans 2 = .ok → exec (.driveWord w) s = .next { s with
      lines := ⟨s.lines.dc, .known .high,
        lineAfter s.params.failLevel s.lines.cs [(.low, s.ans 0), (.high, s.ans 3)], s.lines.rd⟩
      odr := .known (zext32 w)
      lineCount := s.lineCount + 4
      trace := s.trace ++ wordEvents (s.ans 0) .ok .ok (s.ans 3) w })

/-- The order inside a word (R118): the events of every DRIVE_WORD are CS-low, WR-low, bus write, WR-high, CS-high, and it
stops only after its second or its fourth: a prefix of the five, up to answers, of length 2, 4 or 5. So for a word issued
by itself (log entry 1), and for word `i` of a send operation, whose cut-off word is followed by the call's
`Err(BusWriteError)` (R153) and by no other event. -/
def Obligations.DriveWordEventsInOrder : Prop :=
  (∀ (s : State) (w : Word16), s.life = .ready → s.seq = .idle → ∃ t, exec (.driveWord w) s = .next t ∧
    t.trace = s.trace ++
      (wordEvents (s.ans 0) (s.ans 1) (s.ans 2) (s.ans 3) w).take (wordStepCount (s.ans 1) (s.ans 2))) ∧
  (∀ (s : State) (i : Nat) (w : Word16) (ws : WordSeq), s.hostWaits = true → s.seq = .writing i w .d1 ws →
    ∃ t, runSteps (wordStepCount (s.ans 1) (s.ans 2)) s = .next t ∧
      (s.ans 1 = .ok → s.ans 2 = .ok → t.seq = .fetch (i + 1) ws ∧
        t.trace = s.trace ++ wordEvents (s.ans 0) .ok .ok (s.ans 3) w) ∧
      (s.ans 1 = .fail ∨ s.ans 2 = .fail → t.seq = .idle ∧
        t.trace = s.trace ++
          (wordEvents (s.ans 0) (s.ans 1) (s.ans 2) (s.ans 3) w).take (wordStepCount (s.ans 1) (s.ans 2)) ++
          [.ret (.err .busWriteError)]))

/-- `DRIVE_WORD` as one action is its micro-steps run one at a time by the sequencer (R34, R110): from `Writing(i, w, 1)`,
after 2, 4 or 5 steps by its answers, the machine is where DRIVE_WORD as a whole leaves it. -/
def Obligations.DriveWordIsItsMicroSteps : Prop :=
  ∀ (s : State) (i : Nat) (w : Word16) (ws : WordSeq), s.life = .ready → s.hostWaits = true →
    s.seq = .writing i w .d1 ws →
    runSteps (wordStepCount (s.ans 1) (s.ans 2)) s = exec (.driveWord w) s

/-! ## The step -/

/-- A step is the operation the machine fetches, run, with the sequencer's transition around it (R7, R34, R61): in an
operation the one SEQ stands for, which always has its effect there; in Idle the host's due request, run with its payload
at the interface and the host's plan moved on. That plan and interface are fields of State is the model's choice (log
entries 2 and 3). -/
def Obligations.StepRunsTheFetchedInstruction : Prop :=
  (∀ (s : State) (i : Instr), hostDue s = none → issued s.params.initOrder s.seq = some i →
    ∃ u, exec i s = .next u ∧ step s = .next (advance s.seq s.nextAnswer u)) ∧
  (∀ (s : State) (h : Byte) (data : ElemStream) (w : Bool) (rest : HostPlan) (i : Instr),
    s.seq = .idle → s.inbox.next = some (.op h data w, rest) → decodeHeader h = .ok i →
    step s = exec i { s with inbox := rest, offer := data })

/-- The transition table of a send operation (R134) from DcPending on (its first row is SendOperationsAreAccepted): with the host waiting, each SEQ state issues its step
and moves as the table says. Each arrival at Idle appends its result. -/
def Obligations.SendTransitionTable : Prop :=
  ∀ s : State, s.hostWaits = true → ∀ (p : Payload) (i : Nat) (w : Word16) (ws : WordSeq),
    (∀ kind, s.seq = .dcPending kind p → ∃ t, step s = .next t ∧
      (s.ans 0 = .ok → t.seq = .dcSet p ∧ t.trace = s.trace ++ [.lineOp .dc (dcLevel kind) .ok]) ∧
      (s.ans 0 = .fail → t.seq = .idle ∧
        t.trace = s.trace ++ [.lineOp .dc (dcLevel kind) .fail, .ret (.err .dcError)])) ∧
    (s.seq = .dcSet p → ∃ t, step s = .next t ∧
      (∀ wd, widthOf p.fmt = some wd → t.seq = .fetch 0 ⟨wd, p.data⟩ ∧ t.trace = s.trace) ∧
      (widthOf p.fmt = none → t.seq = .idle ∧ t.trace = s.trace ++ [.ret (.err .unsupportedFormat)])) ∧
    (s.seq = .fetch i ws → ∃ t, step s = .next t ∧
      (∀ e rest, ws.next = some (e, rest) →
        t.seq = .writing i (wordOf e) .d1 rest ∧ t.trace = s.trace ++ [.pull i (.elem e)]) ∧
      (ws.next = none → t.seq = .idle ∧ t.trace = s.trace ++ [.pull i .ended, .ret .ok])) ∧
    (s.seq = .writing i w .d1 ws → ∃ t, step s = .next t ∧
      t.seq = .writing i w .d2 ws ∧ t.trace = s.trace ++ [.lineOp .cs .low (s.ans 0)]) ∧
    (s.seq = .writing i w .d2 ws → ∃ t, step s = .next t ∧
      (s.ans 0 = .ok → t.seq = .writing i w .d3 ws ∧ t.trace = s.trace ++ [.lineOp .wr .low .ok]) ∧
      (s.ans 0 = .fail → t.seq = .idle ∧
        t.trace = s.trace ++ [.lineOp .wr .low .fail, .ret (.err .busWriteError)])) ∧
    (s.seq = .writing i w .d3 ws → ∃ t, step s = .next t ∧
      t.seq = .writing i w .d4 ws ∧ t.odr = .known (zext32 w) ∧ t.trace = s.trace ++ [.odrWrite (zext32 w)]) ∧
    (s.seq = .writing i w .d4 ws → ∃ t, step s = .next t ∧
      (s.ans 0 = .ok → t.seq = .writing i w .d5 ws ∧ t.trace = s.trace ++ [.lineOp .wr .high .ok]) ∧
      (s.ans 0 = .fail → t.seq = .idle ∧
        t.trace = s.trace ++ [.lineOp .wr .high .fail, .ret (.err .busWriteError)])) ∧
    (s.seq = .writing i w .d5 ws → ∃ t, step s = .next t ∧
      t.seq = .fetch (i + 1) ws ∧ t.trace = s.trace ++ [.lineOp .cs .high (s.ans 0)])

/-- INIT's micro-steps (R112; order D10 by the parameter): with the host waiting, each runs its micro-operation, discards the
answer and moves to the next; the sixteenth ends INIT with LIFE Ready and `Ret(Ok)` (R169, D9). -/
def Obligations.InitMicroStepsDiscardAnswers : Prop :=
  ∀ (s : State) (k : InitStep), s.hostWaits = true → s.seq = .initStep k →
    ∃ u, exec (initOp s.params.initOrder k) s = .next u ∧ u.seq = s.seq ∧ u.life = s.life ∧
      (∀ k', k.next = some k' → step s = .next { u with seq := .initStep k' }) ∧
      (k.next = none → step s = .next { u with seq := .idle, life := .ready, trace := u.trace ++ [.ret .ok] })

/-- Whenever an operation is in progress and the host waits, the sequencer has a next step and takes it, whatever the oracles
hold (R10: "whether the sequencer has a step never depends on an oracle"; R190). In Idle with nothing asked BW16 stays as
it is (R168; log entry 16). -/
def Obligations.OperationsNeverStall : Prop :=
  ∀ s : State, s.hostWaits = true →
    (s.seq ≠ .idle → ∃ t, step s = .next t ∧ t.seq ≠ s.seq) ∧
    (s.seq = .idle → s.inbox.next = none → ∀ k, runSteps k s = .next s)

/-- Reset from outside, in Idle (R180, R42; D15): every item of state at its reset value. That the oracles' counts go on and
the host's plan stands is the model's choice (log entry 10). -/
def Obligations.ResetEventRestoresEveryItem : Prop :=
  ∀ (s : State) (w : Bool) (rest : HostPlan), s.seq = .idle → s.inbox.next = some (.reset w, rest) →
    ∃ t, step s = .next t ∧ (∀ l, t.lines.get l = .unknown) ∧ t.mode = .unknown ∧ t.pull = .unknown ∧
      t.speed = .unknown ∧ t.odr = .unknown ∧ t.idSample = .unknown ∧ t.life = .uninit ∧ t.seq = .idle ∧
      t.trace = [] ∧ t.lineCount = s.lineCount ∧ t.idrCount = s.idrCount ∧ t.inbox = rest ∧ t.params = s.params

/-- The state right after reset (R42, R180; D15) holds every invariant below, and BW16 "issues no micro-operation at reset or
after it until INIT is accepted". -/
def Obligations.ResetMeetsTheInvariants : Prop :=
  SeqLifeAgree State.reset ∧ OdrUpperZero State.reset ∧ PortUniform State.reset ∧ TraceTellsAll State.reset ∧
  NoChipSelectResult State.reset ∧ ProbeWindowSafe State.reset ∧
  (∀ k, runSteps k State.reset = .next State.reset)

/-! ## Errors -/

/-- `DCError` (R152): a failed DC operation of a send operation ends it at once with `Err(DCError)`, whatever the tag; nothing
is pulled and no CS, WR or port event occurs. The DC operations inside INIT never raise it. -/
def Obligations.DcFailureEndsTheSend : Prop :=
  ∀ (s : State) (kind : SendKind) (p : Payload), s.hostWaits = true → s.nextAnswer = .fail →
    (s.seq = .dcPending kind p → ∃ t, step s = .next t ∧
      t = { s with seq := .idle, lines := t.lines, lineCount := s.lineCount + 1,
                   trace := s.trace ++ [.lineOp .dc (dcLevel kind) .fail, .ret (.err .dcError)] } ∧
      (∀ l, l ≠ .dc → t.lines.get l = s.lines.get l)) ∧
    (∀ k, s.seq = .initStep k → initOp s.params.initOrder k = .dcLow ∨ initOp s.params.initOrder k = .dcHigh →
      ∃ t lvl, step s = .next t ∧ t.trace = s.trace ++ [.lineOp .dc lvl .fail])

/-- `UnsupportedFormat` (R154): after the DC operation was answered ok, an unsupported tag ends the operation with it in the
next step, nothing pulled and no CS, WR or port event, whatever the payload holds; a supported tag never does. -/
def Obligations.UnsupportedFormatAfterDc : Prop :=
  ∀ (s : State) (kind : SendKind) (f : Fmt) (d : ElemStream), s.hostWaits = true → s.nextAnswer = .ok →
    s.seq = .dcPending kind ⟨f, d⟩ → ∃ t, runSteps 2 s = .next t ∧
      t = { s with seq := t.seq, lines := s.lines.set .dc (.known (dcLevel kind)), lineCount := s.lineCount + 1,
                   trace := t.trace } ∧
      ((∃ c, f = .other c) → t.seq = .idle ∧
        t.trace = s.trace ++ [.lineOp .dc (dcLevel kind) .ok, .ret (.err .unsupportedFormat)]) ∧
      ((∀ c, f ≠ .other c) → (∃ wd, t.seq = .fetch 0 ⟨wd, d⟩) ∧
        t.trace = s.trace ++ [.lineOp .dc (dcLevel kind) .ok])

/-- The asymmetry (R161): a CS operation of a word, failed or not, is seen in the trace and the word goes on, while a failed
WR operation or initial DC operation ends the call and its error is the call's result. -/
def Obligations.CsFailuresSwallowedWrAndDcPropagate : Prop :=
  ∀ (s : State), s.hostWaits = true → ∀ (i : Nat) (w : Word16) (ws : WordSeq) (kind : SendKind) (p : Payload),
    (s.seq = .writing i w .d1 ws → ∃ t, step s = .next t ∧ t.seq = .writing i w .d2 ws ∧
      t.trace = s.trace ++ [.lineOp .cs .low s.nextAnswer]) ∧
    (s.seq = .writing i w .d5 ws → ∃ t, step s = .next t ∧ t.seq = .fetch (i + 1) ws ∧
      t.trace = s.trace ++ [.lineOp .cs .high s.nextAnswer]) ∧
    (∀ k ∈ [WordStep.d2, .d4], s.seq = .writing i w k ws → s.nextAnswer = .fail →
      ∃ t e, step s = .next t ∧ t.seq = .idle ∧ t.trace = s.trace ++ [e, .ret (.err .busWriteError)] ∧
        e.drives .wr = true) ∧
    (s.seq = .dcPending kind p → s.nextAnswer = .fail →
      ∃ t e, step s = .next t ∧ t.seq = .idle ∧ t.trace = s.trace ++ [e, .ret (.err .dcError)] ∧ e.drives .dc = true)

/-- `BusWriteError` (R153): a failed WR_LOW or WR_HIGH of a word ends the send operation at that step with
`Err(BusWriteError)`, the same for both. The other lines, the registers, LIFE and the events before stay, and no clean-up
event comes (R158, by the spec's decision D8). The WR operations inside INIT never raise it. -/
def Obligations.WrFailureRaisesAndUndoesNothing : Prop :=
  ∀ (s : State) (i : Nat) (w : Word16) (ws : WordSeq), s.hostWaits = true → s.nextAnswer = .fail →
    (∀ q ∈ [(WordStep.d2, Level.low), (WordStep.d4, Level.high)], s.seq = .writing i w q.1 ws →
      ∃ t, step s = .next t ∧
        t = { s with seq := .idle, lines := t.lines, lineCount := s.lineCount + 1,
                     trace := s.trace ++ [.lineOp .wr q.2 .fail, .ret (.err .busWriteError)] } ∧
        (∀ l, l ≠ .wr → t.lines.get l = s.lines.get l)) ∧
    (∀ k, s.seq = .initStep k → initOp s.params.initOrder k = .wrLow ∨ initOp s.params.initOrder k = .wrHigh →
      ∃ t lvl, step s = .next t ∧ t.trace = s.trace ++ [.lineOp .wr lvl .fail])

/-- `raise` undoes nothing and cleans nothing up (R158, by the spec's decisions D7 and D8): a step that returns an error
appends its own event, if it has one, and the result, and nothing after it; SEQ is Idle. If the event was a failed line
operation, it was of DC or WR, its line is what FAIL_LEVEL_POLICY says and its operation is counted; every other line,
every register and LIFE stay. -/
def Obligations.RaiseLeavesLinesAsTheyAre : Prop :=
  ∀ (s t : State) (e : Err) (evs : List Event), s.hostWaits = true → s.seq ≠ .idle → step s = .next t →
    t.trace = s.trace ++ evs ++ [.ret (.err e)] →
    (e = .unsupportedFormat ∧ evs = [] ∧ t = { s with seq := .idle, trace := t.trace }) ∨
    ∃ l lvl, ((l = .dc ∧ e = .dcError) ∨ (l = .wr ∧ e = .busWriteError)) ∧ evs = [.lineOp l lvl .fail] ∧
      t = { s with seq := .idle, lines := t.lines, lineCount := s.lineCount + 1, trace := t.trace } ∧
      (∀ l', l' ≠ l → t.lines.get l' = s.lines.get l') ∧
      (s.params.failLevel = .unchanged → t.lines.get l = s.lines.get l) ∧
      (s.params.failLevel = .unknown → t.lines.get l = .unknown)

/-- Reuse after failure (R137, R159): a step that returns an error leaves SEQ Idle and LIFE Ready, so the next send operation
is accepted. -/
def Obligations.ErrorsLeaveTheInstanceUsable : Prop :=
  ∀ (s t : State) (e : Err) (evs : List Event), SeqLifeAgree s → s.hostWaits = true → s.seq ≠ .idle → step s = .next t →
    t.trace = s.trace ++ evs ++ [.ret (.err e)] →
    t.seq = .idle ∧ t.life = .ready ∧ ∀ c, ∀ r ∈ sendRows c, ∃ u, exec r.op t = .next u

/-! ## Whole operations -/

/-- INIT from acceptance to return, for every answer and every sample (R112, R169; order D10, failures D9): 17 steps append
exactly the 18 events and leave this state: each line as its own operations leave it, a failed one as FAIL_LEVEL_POLICY
says (D7); the port output with ODR zero; the sample kept (D13); LIFE Ready and SEQ Idle. The empty payload interface and
the host's plan moved on are the model's (log entries 2 and 3). -/
def Obligations.InitRunsAllSixteenMicroSteps : Prop :=
  ∀ (s : State) (data : ElemStream) (w : Bool) (rest : HostPlan), s.life = .uninit → s.seq = .idle →
    s.inbox.next = some (.op 0x00#8 data w, rest) → rest.waits = true → s.params.initOrder = .dcFirst →
    runSteps 17 s = .next { s with
      lines := ⟨lineAfter s.params.failLevel s.lines.dc [(.low, s.ans 0), (.high, s.ans 7)],
        lineAfter s.params.failLevel s.lines.wr [(.low, s.ans 3), (.high, s.ans 4)],
        lineAfter s.params.failLevel s.lines.cs
          [(.low, s.ans 2), (.high, s.ans 5), (.low, s.ans 6), (.high, s.ans 10)],
        lineAfter s.params.failLevel s.lines.rd [(.high, s.ans 1), (.low, s.ans 8), (.high, s.ans 9)]⟩
      mode := .known (Vector.replicate busLines .output)
      pull := .known Config.pullAlt
      speed := .known (Vector.replicate busLines Config.speedMax)
      odr := .known 0#32
      idSample := .known (s.nextIdr.extractLsb' 0 16)
      life := .ready
      trace := s.trace ++ initEvents s.ans s.nextIdr
      lineCount := s.lineCount + 11
      idrCount := s.idrCount + 1
      offer := ElemStream.empty
      inbox := rest }

/-- The state after an INIT in which every line operation was answered ok (R113), in either order of micro-steps 2 and 3
(D10, U5): the four lines high, the port output with ODR zero, LIFE Ready, SEQ Idle. -/
def Obligations.InitWithAllAnswersOkLeavesLinesHigh : Prop :=
  ∀ (s : State) (data : ElemStream) (w : Bool) (rest : HostPlan), s.life = .uninit → s.seq = .idle →
    s.inbox.next = some (.op 0x00#8 data w, rest) → rest.waits = true → AnswersOk s 11 →
    ∃ t, runSteps 17 s = .next t ∧
      (∀ l, t.lines.get l = .known .high) ∧ t.mode = .known (Vector.replicate busLines .output) ∧
      t.pull = .known Config.pullAlt ∧ t.speed = .known (Vector.replicate busLines Config.speedMax) ∧
      t.odr = .known 0#32 ∧ t.idSample = .known (s.nextIdr.extractLsb' 0 16) ∧ t.life = .ready ∧ t.seq = .idle ∧
      (∀ i, t.pin i = .driven false)

/-- The shape of INIT (R117), in either order of micro-steps 2 and 3 and for every answer and sample: output configured first
and last, input once between, one RD-low window after it with the one read inside, closed before the second output. -/
def Obligations.InitShape : Prop :=
  ∀ (s : State) (data : ElemStream) (w : Bool) (rest : HostPlan), s.life = .uninit → s.seq = .idle →
    s.inbox.next = some (.op 0x00#8 data w, rest) → rest.waits = true →
    ∃ t A B C D, runSteps 17 s = .next t ∧
      t.trace = s.trace ++ [.accept 0x00#8, .cfgOut] ++ A ++ [.cfgIn] ++ B ++ [.lineOp .rd .low (s.ans 8)] ++
        [.idrRead s.nextIdr] ++ [.lineOp .rd .high (s.ans 9)] ++ C ++ [.cfgOut] ++ D ∧ D = [.ret .ok] ∧
      (∀ e ∈ A ++ B ++ C, e ≠ .cfgOut ∧ e ≠ .cfgIn ∧ (∀ a, e ≠ .lineOp .rd .low a) ∧ (∀ v, e ≠ .idrRead v))

/-- Every element of a finite payload becomes one DRIVE_WORD of its zero-extended or verbatim value, in order (R136, R133,
R75), when neither the DC operation nor a WR operation fails; CS answers are arbitrary. The whole call: Accept (headers
D3), one DC event (R135), then each pull with the five events of its word, the end, `Ret(Ok)`. An empty payload writes no
word. The payload is any that delivers the elements `xs` and then ends, a buffer or a lazy sequence (R60). -/
def Obligations.SendWritesEveryElement : Prop :=
  ∀ (s : State) (c : BitVec 3), ∀ r ∈ sendRows c, ∀ (wd : ElemWidth) (d e : ElemStream) (xs : List Word16) (w : Bool)
    (rest : HostPlan), widthOf r.fmt = some wd → s.life = .ready → s.seq = .idle →
    s.inbox.next = some (.op r.header d w, rest) → rest.waits = true → Delivers d xs e → e.next = none → s.ans 0 = .ok →
    (∀ j < xs.length, s.ans (4 * j + 2) = .ok ∧ s.ans (4 * j + 3) = .ok) →
    ∃ t, runSteps (6 * xs.length + 4) s = .next t ∧ t.seq = .idle ∧ t.life = .ready ∧
      t.lineCount = s.lineCount + 4 * xs.length + 1 ∧
      t.trace = s.trace ++ [.accept r.header, .lineOp .dc (dcLevel r.kind) .ok] ++
        wordsEvents s.lineAnswer (s.lineCount + 1) 0 (xs.map (elemOf wd)) ++ [.pull xs.length .ended, .ret .ok]

/-- A WR failure on word `i` stops the call before element `i+1` is pulled and returns `BusWriteError`; the words before it
stay written (R133 case (b), R136, R138; D8): `i+1` elements pulled, `i` words whole, the last one cut after 2 or 4
events. The payload is any that delivers `xs` and then `x`, finite or infinite, written out, cyclic or lazy. -/
def Obligations.WrFailureStopsThePayload : Prop :=
  ∀ (s : State) (c : BitVec 3), ∀ r ∈ sendRows c, ∀ (wd : ElemWidth) (d e e' : ElemStream) (xs : List Word16) (x : Word16)
    (w : Bool) (rest : HostPlan), widthOf r.fmt = some wd → s.life = .ready → s.seq = .idle →
    s.inbox.next = some (.op r.header d w, rest) → rest.waits = true → Delivers d xs e → e.next = some (x, e') →
    s.ans 0 = .ok → (∀ j < xs.length, s.ans (4 * j + 2) = .ok ∧ s.ans (4 * j + 3) = .ok) →
    ∀ q ∈ [(2, Answer.fail, Answer.ok), (4, Answer.ok, Answer.fail)], s.ans (4 * xs.length + 2) = q.2.1 →
      (q.1 = 4 → s.ans (4 * xs.length + 3) = .fail) →
      ∃ t, runSteps (6 * xs.length + 4 + q.1) s = .next t ∧ t.seq = .idle ∧ t.life = .ready ∧
        t.trace = s.trace ++ [.accept r.header, .lineOp .dc (dcLevel r.kind) .ok] ++
          wordsEvents s.lineAnswer (s.lineCount + 1) 0 (xs.map (elemOf wd)) ++
          [.pull xs.length (.elem (elemOf wd x))] ++
          (wordEvents (s.ans (4 * xs.length + 1)) q.2.1 q.2.2 .ok (wordOf (elemOf wd x))).take q.1 ++
          [.ret (.err .busWriteError)]

/-- One DC event per call (R135; headers D3), for every tag, every answer and every payload that ends: the call returns, and
between its Accept and its Ret there is exactly one DC line operation, the first pin-side event, low for SEND_CMD and high
for SEND_DATA. -/
def Obligations.EverySendHasOneDcEvent : Prop :=
  ∀ (s : State) (c : BitVec 3), ∀ r ∈ sendRows c, ∀ (d e : ElemStream) (xs : List Word16) (w : Bool) (rest : HostPlan),
    s.life = .ready → s.seq = .idle → s.inbox.next = some (.op r.header d w, rest) → rest.waits = true →
    Delivers d xs e → e.next = none →
    ∃ k t evs res, runSteps k s = .next t ∧ t.seq = .idle ∧
      t.trace = s.trace ++ [.accept r.header, .lineOp .dc (dcLevel r.kind) (s.ans 0)] ++ evs ++ [.ret res] ∧
      (∀ e ∈ evs, e.drives .dc = false ∧ e.isRet = false)

/-- An infinite payload never returns unless a WR operation fails (R139, C11): as long as every WR answer is ok, for any CS
answers, the run goes on and SEQ is at no point Idle again, for any number `k` of words. After any written-out elements
the payload repeats a cycle, or is a lazy sequence that never ends (`Endless`; log entry 6). `4j + 2` and `4j + 3` count
line operations from the DC operation on. -/
def Obligations.InfinitePayloadNeverReturns : Prop :=
  ∀ (s : State) (c : BitVec 3), ∀ r ∈ sendRows c, ∀ (wd : ElemWidth) (xs : List Word16) (tl : Tail Word16)
    (w : Bool) (rest : HostPlan) (k : Nat), widthOf r.fmt = some wd → s.life = .ready → s.seq = .idle →
    s.inbox.next = some (.op r.header ⟨xs, tl⟩ w, rest) → rest.waits = true → Endless Config.lazyElem tl → s.ans 0 = .ok →
    (∀ j < k, s.ans (4 * j + 2) = .ok ∧ s.ans (4 * j + 3) = .ok) →
    ∀ m ≤ 6 * k + 2, ∃ t, runSteps (m + 1) s = .next t ∧ t.seq ≠ .idle

/-! ## Invariants, from every state -/

/-- SEQ and LIFE agree after every step (R33, R116, R162). -/
def Obligations.StepKeepsSeqLifeAgree : Prop :=
  ∀ s t : State, SeqLifeAgree s → step s = .next t → SeqLifeAgree t

/-- The upper half of ODR stays zero (R30): "`ODR[31:16]` is zero after every write BW16 makes". -/
def Obligations.StepKeepsOdrUpperZero : Prop :=
  ∀ s t : State, OdrUpperZero s → step s = .next t → OdrUpperZero t

/-- MODE stays one setting for all 16 lines, PULL and SPEED hold nothing but CFG_OUT's settings (R27 to R29). -/
def Obligations.StepKeepsPortUniform : Prop :=
  ∀ s t : State, PortUniform s → step s = .next t → PortUniform t

/-- The trace tells all (R11): after every step the lines and the port registers are the replay of T from reset. The
observation is the spec's decision D27. -/
def Obligations.StepKeepsTraceTellsAll : Prop :=
  ∀ s t : State, TraceTellsAll s → step s = .next t → TraceTellsAll t

/-- No operation ever returns `Err(ChipSelectError)` (R151, U18). -/
def Obligations.ChipSelectErrorNeverReturned : Prop :=
  ∀ s t : State, NoChipSelectResult s → step s = .next t → NoChipSelectResult t

/-- The probe window (R63, R186): if the RD_HIGH of micro-step 14 is answered ok, a step keeps RD known low only while
micro-steps 13 and 14 are to come, and then MODE is input, so BW16 drives no pin. -/
def Obligations.ProbeWindowIsKept : Prop :=
  ∀ s t : State, ProbeWindowSafe s → (s.seq = .initStep .m14 → s.nextAnswer = .ok) → step s = .next t →
    ProbeWindowSafe t ∧ (t.lines.rd = .known .low → ∀ i, t.pin i = .environment)

/-- T is append-only (R37): every step but a reset appends, one event, or one and then `Ret`, or `Ret` alone, or none. -/
def Obligations.TraceIsAppendOnly : Prop :=
  ∀ s t : State, step s = .next t → (∀ w, hostDue s ≠ some (.reset w)) →
    ∃ evs, t.trace = s.trace ++ evs ∧ evs.length ≤ 2 ∧ (evs.length = 2 → ∃ r, evs.getLast? = some (.ret r))

/-- LIFE changes only as R33 and R162 say (D16): from Uninit to Ready at the end of INIT, from Ready to Released by RELEASE,
and to Uninit by a reset. So Released is left by a reset only. In states in which SEQ and LIFE agree, which
StepKeepsSeqLifeAgree keeps. -/
def Obligations.LifeChangesOnlyAsTabulated : Prop :=
  ∀ s t : State, SeqLifeAgree s → step s = .next t →
    (t.life = s.life ∨ (t.life = .ready ∧ s.life = .uninit ∧ s.seq = .initStep .m16) ∨
      (t.life = .released ∧ s.life = .ready ∧ s.seq = .idle ∧ ∃ d w, hostDue s = some (.op 0x30#8 d w)) ∨
      (t.life = .uninit ∧ s.seq = .idle ∧ ∃ w, hostDue s = some (.reset w))) ∧
    (s.life = .released → t.life ≠ .released → ∃ w, hostDue s = some (.reset w))

/-- RD is driven only during INIT (R25), and within the words of a payload DC holds its level (R22, R183): outside INIT a step
but a reset leaves RD alone, and from the dispatch on it leaves DC alone too. -/
def Obligations.RdOnlyInInitDcOncePerPayload : Prop :=
  ∀ s t : State, step s = .next t → (∀ w, hostDue s ≠ some (.reset w)) → (∀ k, s.seq ≠ .initStep k) →
    t.lines.rd = s.lines.rd ∧ ((∀ kind p, s.seq ≠ .dcPending kind p) → t.lines.dc = s.lines.dc)

/-- The value on the bus is stable from DRIVE_WORD's step 3 to beyond its step 4 (R184): outside INIT only that step 3 writes
ODR, and MODE, PULL, SPEED and ID_SAMPLE are written by nothing. -/
def Obligations.OdrChangesOnlyInItsStep : Prop :=
  ∀ s t : State, step s = .next t → (∀ w, hostDue s ≠ some (.reset w)) → (∀ k, s.seq ≠ .initStep k) →
    t.mode = s.mode ∧ t.pull = s.pull ∧ t.speed = s.speed ∧ t.idSample = s.idSample ∧
    ((∀ i w ws, s.seq ≠ .writing i w .d3 ws) → t.odr = s.odr)

/-- No rule of BW16 reads a line level, a port register, the sample or the level policy (R21, R42; program P3u): two states
that differ in nothing else do the same, event for event. -/
def Obligations.LevelsAndPolicyNeverDecide : Prop :=
  ∀ s t : State, SameControl s t → SameOutcome (step s) (step t)

/-! ## The latch log -/

/-- What a `WR_HIGH` adds to the latch log (R38, R94; D24), in a state whose trace tells all: nothing if WR was high; an entry
with the fields just before it, Certain after a low, Possible after an unknown level or a fail under policy Unknown;
nothing on a fail under policy Unchanged. -/
def Obligations.WrHighLatches : Prop :=
  ∀ s : State, TraceTellsAll s → ∃ t, exec .wrHigh s = .next t ∧
    (s.lines.wr = .known .high → t.latches = s.latches) ∧
    (s.nextAnswer = .ok → s.lines.wr = .known .low → t.latches = s.latches ++ [latchEntry s.view .certain]) ∧
    (s.nextAnswer = .ok → s.lines.wr = .unknown → t.latches = s.latches ++ [latchEntry s.view .possible]) ∧
    (s.nextAnswer = .fail → s.params.failLevel = .unchanged → t.latches = s.latches) ∧
    (s.nextAnswer = .fail → s.params.failLevel = .unknown → s.lines.wr ≠ .known .high →
      t.latches = s.latches ++ [latchEntry s.view .possible])

/-- A failure-free send operation latches exactly its words (R23, R38, R136; D24): whatever the levels before, the log gains one
Certain entry for each element, in order, with the selected DC level, CS low, and the element's word. The payload is any
that delivers the elements `xs` and then ends. -/
def Obligations.FailureFreeSendLatchesItsWords : Prop :=
  ∀ (s : State) (c : BitVec 3), ∀ r ∈ sendRows c, ∀ (wd : ElemWidth) (d e : ElemStream) (xs : List Word16) (w : Bool)
    (rest : HostPlan), widthOf r.fmt = some wd → s.life = .ready → s.seq = .idle →
    s.inbox.next = some (.op r.header d w, rest) → rest.waits = true → Delivers d xs e → e.next = none →
    TraceTellsAll s → AnswersOk s (4 * xs.length + 1) →
    ∃ t, runSteps (6 * xs.length + 4) s = .next t ∧ t.seq = .idle ∧
      t.latches = s.latches ++ xs.map (fun x =>
        ⟨.certain, .known (dcLevel r.kind), .known .low, s.lines.rd, s.mode, .known (wordOf (elemOf wd x))⟩)

/-! ## The host -/

/-- An infinite list of host operations is an infinite run (R190, R191): a host that goes on issuing one send operation with
a payload that ends, each when the one before has returned, gets one result after another for ever, whatever the answers.
The host's list as a field of State is the model's (log entry 2). -/
def Obligations.InfiniteHostListGoesOn : Prop :=
  ∀ (s : State) (c : BitVec 3), ∀ r ∈ sendRows c, ∀ (d e : ElemStream) (xs : List Word16), s.life = .ready → s.seq = .idle →
    s.inbox = ⟨[], .cycle (.op r.header d true) []⟩ → Delivers d xs e → e.next = none →
    ∀ k, ∃ m t, runSteps m s = .next t ∧ t.seq = .idle ∧ t.life = .ready ∧ t.inbox = s.inbox ∧
      (t.trace.filter Event.isRet).length = (s.trace.filter Event.isRet).length + k
end

