-- ==== Sys2Proof/Laws/Feed.lean ====
section
/-! SUPPORT. What the sequences the host supplies do, once each: their next item in every form, payloads and the host's plan,
what a payload delivers, and that an endless sequence has a next item and stays endless. -/

namespace Sys2Proof.Machine

section Feed

variable {α : Type} (lazyAt : Nat → Nat → Option α)

@[simp] theorem Feed.pull_cons (x : α) (xs : List α) (tl : Tail α) :
    Feed.pull lazyAt ⟨x :: xs, tl⟩ = some (x, ⟨xs, tl⟩) := rfl

@[simp] theorem Feed.pull_ended : Feed.pull lazyAt ⟨[], .ended⟩ = none := rfl

@[simp] theorem Feed.pull_cycle (x : α) (xs : List α) :
    Feed.pull lazyAt ⟨[], .cycle x xs⟩ = some (x, ⟨xs, .cycle x xs⟩) := rfl

theorem Feed.pull_lazy_some {id k : Nat} {x : α} (h : lazyAt id k = some x) :
    Feed.pull lazyAt ⟨[], .lazy id k⟩ = some (x, ⟨[], .lazy id (k + 1)⟩) := by
  simp [Feed.pull, h]

theorem Feed.pull_lazy_none {id k : Nat} (h : lazyAt id k = none) : Feed.pull lazyAt ⟨[], .lazy id k⟩ = none := by
  simp [Feed.pull, h]

/-- An endless sequence has a next item, and is endless after it. -/
theorem Feed.pull_of_endless {p : Feed α} (h : Endless lazyAt p.tail) :
    ∃ x q, Feed.pull lazyAt p = some (x, q) ∧ Endless lazyAt q.tail := by
  obtain ⟨items, tl⟩ := p
  cases items with
  | cons x xs => exact ⟨x, ⟨xs, tl⟩, rfl, h⟩
  | nil =>
    cases tl with
    | ended => exact h.elim
    | cycle x xs => exact ⟨x, ⟨xs, .cycle x xs⟩, rfl, h⟩
    | lazy id k =>
      obtain ⟨x, hx⟩ := Option.isSome_iff_exists.mp (h 0)
      exact ⟨x, ⟨[], .lazy id (k + 1)⟩, Feed.pull_lazy_some lazyAt hx, fun j => Nat.add_right_comm k 1 j ▸ h (j + 1)⟩

end Feed

theorem HostPlan.rest_of_next {p rest : HostPlan} {e : HostEvent} (h : p.next = some (e, rest)) : p.rest = rest := by
  simp [HostPlan.rest, h]

theorem HostPlan.next_push (e : HostEvent) (p : HostPlan) : (p.push e).next = some (e, p) := rfl

theorem HostPlan.waits_of_next {p rest : HostPlan} {e : HostEvent} (h : p.next = some (e, rest)) :
    p.waits = e.waits := by
  simp [HostPlan.waits, h]

/-- The elements written out are delivered in order. -/
theorem delivers_items (xs ys : List Word16) (tl : Tail Word16) : Delivers ⟨xs ++ ys, tl⟩ xs ⟨ys, tl⟩ := by
  induction xs with
  | nil => rfl
  | cons x xs ih => exact ⟨⟨xs ++ ys, tl⟩, rfl, ih⟩

@[simp] theorem lineAfter_nil (policy : FailLevelPolicy) (old : LineState) : lineAfter policy old [] = old := rfl

@[simp] theorem lineAfter_cons (policy : FailLevelPolicy) (old : LineState) (o : Level × Answer) (os : List (Level × Answer)) :
    lineAfter policy old (o :: os) = lineAfter policy (levelAfter policy o.2 o.1 old) os := rfl

end Sys2Proof.Machine
end

