-- ==== Sys2Proof/Laws/State.lean ====
section
/-! SUPPORT. One lemma per field per update of the state, so that no later proof unfolds a record update; the oracles'
answers depend on the parameters alone. -/

namespace Sys2Proof.Machine

@[simp] theorem State.withLine_lines (s : State) (l : LineId) (v : LineState) : (s.withLine l v).lines = s.lines.set l v := rfl
@[simp] theorem State.withLine_mode (s : State) (l : LineId) (v : LineState) : (s.withLine l v).mode = s.mode := rfl
@[simp] theorem State.withLine_pull (s : State) (l : LineId) (v : LineState) : (s.withLine l v).pull = s.pull := rfl
@[simp] theorem State.withLine_speed (s : State) (l : LineId) (v : LineState) : (s.withLine l v).speed = s.speed := rfl
@[simp] theorem State.withLine_odr (s : State) (l : LineId) (v : LineState) : (s.withLine l v).odr = s.odr := rfl
@[simp] theorem State.withLine_idSample (s : State) (l : LineId) (v : LineState) : (s.withLine l v).idSample = s.idSample := rfl
@[simp] theorem State.withLine_life (s : State) (l : LineId) (v : LineState) : (s.withLine l v).life = s.life := rfl
@[simp] theorem State.withLine_seq (s : State) (l : LineId) (v : LineState) : (s.withLine l v).seq = s.seq := rfl
@[simp] theorem State.withLine_trace (s : State) (l : LineId) (v : LineState) : (s.withLine l v).trace = s.trace := rfl
@[simp] theorem State.withLine_lineCount (s : State) (l : LineId) (v : LineState) : (s.withLine l v).lineCount = s.lineCount := rfl
@[simp] theorem State.withLine_idrCount (s : State) (l : LineId) (v : LineState) : (s.withLine l v).idrCount = s.idrCount := rfl
@[simp] theorem State.withLine_offer (s : State) (l : LineId) (v : LineState) : (s.withLine l v).offer = s.offer := rfl
@[simp] theorem State.withLine_inbox (s : State) (l : LineId) (v : LineState) : (s.withLine l v).inbox = s.inbox := rfl
@[simp] theorem State.withLine_params (s : State) (l : LineId) (v : LineState) : (s.withLine l v).params = s.params := rfl
@[simp] theorem State.withLine_lineAnswer (s : State) (l : LineId) (v : LineState) (n : Nat) : (s.withLine l v).lineAnswer n = s.lineAnswer n := rfl
@[simp] theorem State.withLine_idrValue (s : State) (l : LineId) (v : LineState) (n : Nat) : (s.withLine l v).idrValue n = s.idrValue n := rfl

@[simp] theorem State.withMode_lines (s : State) (v : Cfg (Vector Mode busLines)) : (s.withMode v).lines = s.lines := rfl
@[simp] theorem State.withMode_mode (s : State) (v : Cfg (Vector Mode busLines)) : (s.withMode v).mode = v := rfl
@[simp] theorem State.withMode_pull (s : State) (v : Cfg (Vector Mode busLines)) : (s.withMode v).pull = s.pull := rfl
@[simp] theorem State.withMode_speed (s : State) (v : Cfg (Vector Mode busLines)) : (s.withMode v).speed = s.speed := rfl
@[simp] theorem State.withMode_odr (s : State) (v : Cfg (Vector Mode busLines)) : (s.withMode v).odr = s.odr := rfl
@[simp] theorem State.withMode_idSample (s : State) (v : Cfg (Vector Mode busLines)) : (s.withMode v).idSample = s.idSample := rfl
@[simp] theorem State.withMode_life (s : State) (v : Cfg (Vector Mode busLines)) : (s.withMode v).life = s.life := rfl
@[simp] theorem State.withMode_seq (s : State) (v : Cfg (Vector Mode busLines)) : (s.withMode v).seq = s.seq := rfl
@[simp] theorem State.withMode_trace (s : State) (v : Cfg (Vector Mode busLines)) : (s.withMode v).trace = s.trace := rfl
@[simp] theorem State.withMode_lineCount (s : State) (v : Cfg (Vector Mode busLines)) : (s.withMode v).lineCount = s.lineCount := rfl
@[simp] theorem State.withMode_idrCount (s : State) (v : Cfg (Vector Mode busLines)) : (s.withMode v).idrCount = s.idrCount := rfl
@[simp] theorem State.withMode_offer (s : State) (v : Cfg (Vector Mode busLines)) : (s.withMode v).offer = s.offer := rfl
@[simp] theorem State.withMode_inbox (s : State) (v : Cfg (Vector Mode busLines)) : (s.withMode v).inbox = s.inbox := rfl
@[simp] theorem State.withMode_params (s : State) (v : Cfg (Vector Mode busLines)) : (s.withMode v).params = s.params := rfl
@[simp] theorem State.withMode_lineAnswer (s : State) (v : Cfg (Vector Mode busLines)) (n : Nat) : (s.withMode v).lineAnswer n = s.lineAnswer n := rfl
@[simp] theorem State.withMode_idrValue (s : State) (v : Cfg (Vector Mode busLines)) (n : Nat) : (s.withMode v).idrValue n = s.idrValue n := rfl

@[simp] theorem State.withPull_lines (s : State) (v : Cfg (Vector PullSetting busLines)) : (s.withPull v).lines = s.lines := rfl
@[simp] theorem State.withPull_mode (s : State) (v : Cfg (Vector PullSetting busLines)) : (s.withPull v).mode = s.mode := rfl
@[simp] theorem State.withPull_pull (s : State) (v : Cfg (Vector PullSetting busLines)) : (s.withPull v).pull = v := rfl
@[simp] theorem State.withPull_speed (s : State) (v : Cfg (Vector PullSetting busLines)) : (s.withPull v).speed = s.speed := rfl
@[simp] theorem State.withPull_odr (s : State) (v : Cfg (Vector PullSetting busLines)) : (s.withPull v).odr = s.odr := rfl
@[simp] theorem State.withPull_idSample (s : State) (v : Cfg (Vector PullSetting busLines)) : (s.withPull v).idSample = s.idSample := rfl
@[simp] theorem State.withPull_life (s : State) (v : Cfg (Vector PullSetting busLines)) : (s.withPull v).life = s.life := rfl
@[simp] theorem State.withPull_seq (s : State) (v : Cfg (Vector PullSetting busLines)) : (s.withPull v).seq = s.seq := rfl
@[simp] theorem State.withPull_trace (s : State) (v : Cfg (Vector PullSetting busLines)) : (s.withPull v).trace = s.trace := rfl
@[simp] theorem State.withPull_lineCount (s : State) (v : Cfg (Vector PullSetting busLines)) : (s.withPull v).lineCount = s.lineCount := rfl
@[simp] theorem State.withPull_idrCount (s : State) (v : Cfg (Vector PullSetting busLines)) : (s.withPull v).idrCount = s.idrCount := rfl
@[simp] theorem State.withPull_offer (s : State) (v : Cfg (Vector PullSetting busLines)) : (s.withPull v).offer = s.offer := rfl
@[simp] theorem State.withPull_inbox (s : State) (v : Cfg (Vector PullSetting busLines)) : (s.withPull v).inbox = s.inbox := rfl
@[simp] theorem State.withPull_params (s : State) (v : Cfg (Vector PullSetting busLines)) : (s.withPull v).params = s.params := rfl
@[simp] theorem State.withPull_lineAnswer (s : State) (v : Cfg (Vector PullSetting busLines)) (n : Nat) : (s.withPull v).lineAnswer n = s.lineAnswer n := rfl
@[simp] theorem State.withPull_idrValue (s : State) (v : Cfg (Vector PullSetting busLines)) (n : Nat) : (s.withPull v).idrValue n = s.idrValue n := rfl

@[simp] theorem State.withSpeed_lines (s : State) (v : Cfg (Vector SpeedSetting busLines)) : (s.withSpeed v).lines = s.lines := rfl
@[simp] theorem State.withSpeed_mode (s : State) (v : Cfg (Vector SpeedSetting busLines)) : (s.withSpeed v).mode = s.mode := rfl
@[simp] theorem State.withSpeed_pull (s : State) (v : Cfg (Vector SpeedSetting busLines)) : (s.withSpeed v).pull = s.pull := rfl
@[simp] theorem State.withSpeed_speed (s : State) (v : Cfg (Vector SpeedSetting busLines)) : (s.withSpeed v).speed = v := rfl
@[simp] theorem State.withSpeed_odr (s : State) (v : Cfg (Vector SpeedSetting busLines)) : (s.withSpeed v).odr = s.odr := rfl
@[simp] theorem State.withSpeed_idSample (s : State) (v : Cfg (Vector SpeedSetting busLines)) : (s.withSpeed v).idSample = s.idSample := rfl
@[simp] theorem State.withSpeed_life (s : State) (v : Cfg (Vector SpeedSetting busLines)) : (s.withSpeed v).life = s.life := rfl
@[simp] theorem State.withSpeed_seq (s : State) (v : Cfg (Vector SpeedSetting busLines)) : (s.withSpeed v).seq = s.seq := rfl
@[simp] theorem State.withSpeed_trace (s : State) (v : Cfg (Vector SpeedSetting busLines)) : (s.withSpeed v).trace = s.trace := rfl
@[simp] theorem State.withSpeed_lineCount (s : State) (v : Cfg (Vector SpeedSetting busLines)) : (s.withSpeed v).lineCount = s.lineCount := rfl
@[simp] theorem State.withSpeed_idrCount (s : State) (v : Cfg (Vector SpeedSetting busLines)) : (s.withSpeed v).idrCount = s.idrCount := rfl
@[simp] theorem State.withSpeed_offer (s : State) (v : Cfg (Vector SpeedSetting busLines)) : (s.withSpeed v).offer = s.offer := rfl
@[simp] theorem State.withSpeed_inbox (s : State) (v : Cfg (Vector SpeedSetting busLines)) : (s.withSpeed v).inbox = s.inbox := rfl
@[simp] theorem State.withSpeed_params (s : State) (v : Cfg (Vector SpeedSetting busLines)) : (s.withSpeed v).params = s.params := rfl
@[simp] theorem State.withSpeed_lineAnswer (s : State) (v : Cfg (Vector SpeedSetting busLines)) (n : Nat) : (s.withSpeed v).lineAnswer n = s.lineAnswer n := rfl
@[simp] theorem State.withSpeed_idrValue (s : State) (v : Cfg (Vector SpeedSetting busLines)) (n : Nat) : (s.withSpeed v).idrValue n = s.idrValue n := rfl

@[simp] theorem State.withOdr_lines (s : State) (v : Cfg Word32) : (s.withOdr v).lines = s.lines := rfl
@[simp] theorem State.withOdr_mode (s : State) (v : Cfg Word32) : (s.withOdr v).mode = s.mode := rfl
@[simp] theorem State.withOdr_pull (s : State) (v : Cfg Word32) : (s.withOdr v).pull = s.pull := rfl
@[simp] theorem State.withOdr_speed (s : State) (v : Cfg Word32) : (s.withOdr v).speed = s.speed := rfl
@[simp] theorem State.withOdr_odr (s : State) (v : Cfg Word32) : (s.withOdr v).odr = v := rfl
@[simp] theorem State.withOdr_idSample (s : State) (v : Cfg Word32) : (s.withOdr v).idSample = s.idSample := rfl
@[simp] theorem State.withOdr_life (s : State) (v : Cfg Word32) : (s.withOdr v).life = s.life := rfl
@[simp] theorem State.withOdr_seq (s : State) (v : Cfg Word32) : (s.withOdr v).seq = s.seq := rfl
@[simp] theorem State.withOdr_trace (s : State) (v : Cfg Word32) : (s.withOdr v).trace = s.trace := rfl
@[simp] theorem State.withOdr_lineCount (s : State) (v : Cfg Word32) : (s.withOdr v).lineCount = s.lineCount := rfl
@[simp] theorem State.withOdr_idrCount (s : State) (v : Cfg Word32) : (s.withOdr v).idrCount = s.idrCount := rfl
@[simp] theorem State.withOdr_offer (s : State) (v : Cfg Word32) : (s.withOdr v).offer = s.offer := rfl
@[simp] theorem State.withOdr_inbox (s : State) (v : Cfg Word32) : (s.withOdr v).inbox = s.inbox := rfl
@[simp] theorem State.withOdr_params (s : State) (v : Cfg Word32) : (s.withOdr v).params = s.params := rfl
@[simp] theorem State.withOdr_lineAnswer (s : State) (v : Cfg Word32) (n : Nat) : (s.withOdr v).lineAnswer n = s.lineAnswer n := rfl
@[simp] theorem State.withOdr_idrValue (s : State) (v : Cfg Word32) (n : Nat) : (s.withOdr v).idrValue n = s.idrValue n := rfl

@[simp] theorem State.withIdSample_lines (s : State) (v : Cfg Word16) : (s.withIdSample v).lines = s.lines := rfl
@[simp] theorem State.withIdSample_mode (s : State) (v : Cfg Word16) : (s.withIdSample v).mode = s.mode := rfl
@[simp] theorem State.withIdSample_pull (s : State) (v : Cfg Word16) : (s.withIdSample v).pull = s.pull := rfl
@[simp] theorem State.withIdSample_speed (s : State) (v : Cfg Word16) : (s.withIdSample v).speed = s.speed := rfl
@[simp] theorem State.withIdSample_odr (s : State) (v : Cfg Word16) : (s.withIdSample v).odr = s.odr := rfl
@[simp] theorem State.withIdSample_idSample (s : State) (v : Cfg Word16) : (s.withIdSample v).idSample = v := rfl
@[simp] theorem State.withIdSample_life (s : State) (v : Cfg Word16) : (s.withIdSample v).life = s.life := rfl
@[simp] theorem State.withIdSample_seq (s : State) (v : Cfg Word16) : (s.withIdSample v).seq = s.seq := rfl
@[simp] theorem State.withIdSample_trace (s : State) (v : Cfg Word16) : (s.withIdSample v).trace = s.trace := rfl
@[simp] theorem State.withIdSample_lineCount (s : State) (v : Cfg Word16) : (s.withIdSample v).lineCount = s.lineCount := rfl
@[simp] theorem State.withIdSample_idrCount (s : State) (v : Cfg Word16) : (s.withIdSample v).idrCount = s.idrCount := rfl
@[simp] theorem State.withIdSample_offer (s : State) (v : Cfg Word16) : (s.withIdSample v).offer = s.offer := rfl
@[simp] theorem State.withIdSample_inbox (s : State) (v : Cfg Word16) : (s.withIdSample v).inbox = s.inbox := rfl
@[simp] theorem State.withIdSample_params (s : State) (v : Cfg Word16) : (s.withIdSample v).params = s.params := rfl
@[simp] theorem State.withIdSample_lineAnswer (s : State) (v : Cfg Word16) (n : Nat) : (s.withIdSample v).lineAnswer n = s.lineAnswer n := rfl
@[simp] theorem State.withIdSample_idrValue (s : State) (v : Cfg Word16) (n : Nat) : (s.withIdSample v).idrValue n = s.idrValue n := rfl

@[simp] theorem State.withLife_lines (s : State) (v : Lifecycle) : (s.withLife v).lines = s.lines := rfl
@[simp] theorem State.withLife_mode (s : State) (v : Lifecycle) : (s.withLife v).mode = s.mode := rfl
@[simp] theorem State.withLife_pull (s : State) (v : Lifecycle) : (s.withLife v).pull = s.pull := rfl
@[simp] theorem State.withLife_speed (s : State) (v : Lifecycle) : (s.withLife v).speed = s.speed := rfl
@[simp] theorem State.withLife_odr (s : State) (v : Lifecycle) : (s.withLife v).odr = s.odr := rfl
@[simp] theorem State.withLife_idSample (s : State) (v : Lifecycle) : (s.withLife v).idSample = s.idSample := rfl
@[simp] theorem State.withLife_life (s : State) (v : Lifecycle) : (s.withLife v).life = v := rfl
@[simp] theorem State.withLife_seq (s : State) (v : Lifecycle) : (s.withLife v).seq = s.seq := rfl
@[simp] theorem State.withLife_trace (s : State) (v : Lifecycle) : (s.withLife v).trace = s.trace := rfl
@[simp] theorem State.withLife_lineCount (s : State) (v : Lifecycle) : (s.withLife v).lineCount = s.lineCount := rfl
@[simp] theorem State.withLife_idrCount (s : State) (v : Lifecycle) : (s.withLife v).idrCount = s.idrCount := rfl
@[simp] theorem State.withLife_offer (s : State) (v : Lifecycle) : (s.withLife v).offer = s.offer := rfl
@[simp] theorem State.withLife_inbox (s : State) (v : Lifecycle) : (s.withLife v).inbox = s.inbox := rfl
@[simp] theorem State.withLife_params (s : State) (v : Lifecycle) : (s.withLife v).params = s.params := rfl
@[simp] theorem State.withLife_lineAnswer (s : State) (v : Lifecycle) (n : Nat) : (s.withLife v).lineAnswer n = s.lineAnswer n := rfl
@[simp] theorem State.withLife_idrValue (s : State) (v : Lifecycle) (n : Nat) : (s.withLife v).idrValue n = s.idrValue n := rfl

@[simp] theorem State.withSeq_lines (s : State) (q : SeqState) : (s.withSeq q).lines = s.lines := rfl
@[simp] theorem State.withSeq_mode (s : State) (q : SeqState) : (s.withSeq q).mode = s.mode := rfl
@[simp] theorem State.withSeq_pull (s : State) (q : SeqState) : (s.withSeq q).pull = s.pull := rfl
@[simp] theorem State.withSeq_speed (s : State) (q : SeqState) : (s.withSeq q).speed = s.speed := rfl
@[simp] theorem State.withSeq_odr (s : State) (q : SeqState) : (s.withSeq q).odr = s.odr := rfl
@[simp] theorem State.withSeq_idSample (s : State) (q : SeqState) : (s.withSeq q).idSample = s.idSample := rfl
@[simp] theorem State.withSeq_life (s : State) (q : SeqState) : (s.withSeq q).life = s.life := rfl
@[simp] theorem State.withSeq_seq (s : State) (q : SeqState) : (s.withSeq q).seq = q := rfl
@[simp] theorem State.withSeq_trace (s : State) (q : SeqState) : (s.withSeq q).trace = s.trace := rfl
@[simp] theorem State.withSeq_lineCount (s : State) (q : SeqState) : (s.withSeq q).lineCount = s.lineCount := rfl
@[simp] theorem State.withSeq_idrCount (s : State) (q : SeqState) : (s.withSeq q).idrCount = s.idrCount := rfl
@[simp] theorem State.withSeq_offer (s : State) (q : SeqState) : (s.withSeq q).offer = s.offer := rfl
@[simp] theorem State.withSeq_inbox (s : State) (q : SeqState) : (s.withSeq q).inbox = s.inbox := rfl
@[simp] theorem State.withSeq_params (s : State) (q : SeqState) : (s.withSeq q).params = s.params := rfl
@[simp] theorem State.withSeq_lineAnswer (s : State) (q : SeqState) (n : Nat) : (s.withSeq q).lineAnswer n = s.lineAnswer n := rfl
@[simp] theorem State.withSeq_idrValue (s : State) (q : SeqState) (n : Nat) : (s.withSeq q).idrValue n = s.idrValue n := rfl

@[simp] theorem State.emit_lines (s : State) (e : Event) : (s.emit e).lines = s.lines := rfl
@[simp] theorem State.emit_mode (s : State) (e : Event) : (s.emit e).mode = s.mode := rfl
@[simp] theorem State.emit_pull (s : State) (e : Event) : (s.emit e).pull = s.pull := rfl
@[simp] theorem State.emit_speed (s : State) (e : Event) : (s.emit e).speed = s.speed := rfl
@[simp] theorem State.emit_odr (s : State) (e : Event) : (s.emit e).odr = s.odr := rfl
@[simp] theorem State.emit_idSample (s : State) (e : Event) : (s.emit e).idSample = s.idSample := rfl
@[simp] theorem State.emit_life (s : State) (e : Event) : (s.emit e).life = s.life := rfl
@[simp] theorem State.emit_seq (s : State) (e : Event) : (s.emit e).seq = s.seq := rfl
@[simp] theorem State.emit_trace (s : State) (e : Event) : (s.emit e).trace = s.trace ++ [e] := rfl
@[simp] theorem State.emit_lineCount (s : State) (e : Event) : (s.emit e).lineCount = s.lineCount := rfl
@[simp] theorem State.emit_idrCount (s : State) (e : Event) : (s.emit e).idrCount = s.idrCount := rfl
@[simp] theorem State.emit_offer (s : State) (e : Event) : (s.emit e).offer = s.offer := rfl
@[simp] theorem State.emit_inbox (s : State) (e : Event) : (s.emit e).inbox = s.inbox := rfl
@[simp] theorem State.emit_params (s : State) (e : Event) : (s.emit e).params = s.params := rfl
@[simp] theorem State.emit_lineAnswer (s : State) (e : Event) (n : Nat) : (s.emit e).lineAnswer n = s.lineAnswer n := rfl
@[simp] theorem State.emit_idrValue (s : State) (e : Event) (n : Nat) : (s.emit e).idrValue n = s.idrValue n := rfl

@[simp] theorem State.countLine_lines (s : State) : (s.countLine).lines = s.lines := rfl
@[simp] theorem State.countLine_mode (s : State) : (s.countLine).mode = s.mode := rfl
@[simp] theorem State.countLine_pull (s : State) : (s.countLine).pull = s.pull := rfl
@[simp] theorem State.countLine_speed (s : State) : (s.countLine).speed = s.speed := rfl
@[simp] theorem State.countLine_odr (s : State) : (s.countLine).odr = s.odr := rfl
@[simp] theorem State.countLine_idSample (s : State) : (s.countLine).idSample = s.idSample := rfl
@[simp] theorem State.countLine_life (s : State) : (s.countLine).life = s.life := rfl
@[simp] theorem State.countLine_seq (s : State) : (s.countLine).seq = s.seq := rfl
@[simp] theorem State.countLine_trace (s : State) : (s.countLine).trace = s.trace := rfl
@[simp] theorem State.countLine_lineCount (s : State) : (s.countLine).lineCount = s.lineCount + 1 := rfl
@[simp] theorem State.countLine_idrCount (s : State) : (s.countLine).idrCount = s.idrCount := rfl
@[simp] theorem State.countLine_offer (s : State) : (s.countLine).offer = s.offer := rfl
@[simp] theorem State.countLine_inbox (s : State) : (s.countLine).inbox = s.inbox := rfl
@[simp] theorem State.countLine_params (s : State) : (s.countLine).params = s.params := rfl
@[simp] theorem State.countLine_lineAnswer (s : State) (n : Nat) : (s.countLine).lineAnswer n = s.lineAnswer n := rfl
@[simp] theorem State.countLine_idrValue (s : State) (n : Nat) : (s.countLine).idrValue n = s.idrValue n := rfl

@[simp] theorem State.countIdr_lines (s : State) : (s.countIdr).lines = s.lines := rfl
@[simp] theorem State.countIdr_mode (s : State) : (s.countIdr).mode = s.mode := rfl
@[simp] theorem State.countIdr_pull (s : State) : (s.countIdr).pull = s.pull := rfl
@[simp] theorem State.countIdr_speed (s : State) : (s.countIdr).speed = s.speed := rfl
@[simp] theorem State.countIdr_odr (s : State) : (s.countIdr).odr = s.odr := rfl
@[simp] theorem State.countIdr_idSample (s : State) : (s.countIdr).idSample = s.idSample := rfl
@[simp] theorem State.countIdr_life (s : State) : (s.countIdr).life = s.life := rfl
@[simp] theorem State.countIdr_seq (s : State) : (s.countIdr).seq = s.seq := rfl
@[simp] theorem State.countIdr_trace (s : State) : (s.countIdr).trace = s.trace := rfl
@[simp] theorem State.countIdr_lineCount (s : State) : (s.countIdr).lineCount = s.lineCount := rfl
@[simp] theorem State.countIdr_idrCount (s : State) : (s.countIdr).idrCount = s.idrCount + 1 := rfl
@[simp] theorem State.countIdr_offer (s : State) : (s.countIdr).offer = s.offer := rfl
@[simp] theorem State.countIdr_inbox (s : State) : (s.countIdr).inbox = s.inbox := rfl
@[simp] theorem State.countIdr_params (s : State) : (s.countIdr).params = s.params := rfl
@[simp] theorem State.countIdr_lineAnswer (s : State) (n : Nat) : (s.countIdr).lineAnswer n = s.lineAnswer n := rfl
@[simp] theorem State.countIdr_idrValue (s : State) (n : Nat) : (s.countIdr).idrValue n = s.idrValue n := rfl

@[simp] theorem State.withOffer_lines (s : State) (p : ElemStream) : (s.withOffer p).lines = s.lines := rfl
@[simp] theorem State.withOffer_mode (s : State) (p : ElemStream) : (s.withOffer p).mode = s.mode := rfl
@[simp] theorem State.withOffer_pull (s : State) (p : ElemStream) : (s.withOffer p).pull = s.pull := rfl
@[simp] theorem State.withOffer_speed (s : State) (p : ElemStream) : (s.withOffer p).speed = s.speed := rfl
@[simp] theorem State.withOffer_odr (s : State) (p : ElemStream) : (s.withOffer p).odr = s.odr := rfl
@[simp] theorem State.withOffer_idSample (s : State) (p : ElemStream) : (s.withOffer p).idSample = s.idSample := rfl
@[simp] theorem State.withOffer_life (s : State) (p : ElemStream) : (s.withOffer p).life = s.life := rfl
@[simp] theorem State.withOffer_seq (s : State) (p : ElemStream) : (s.withOffer p).seq = s.seq := rfl
@[simp] theorem State.withOffer_trace (s : State) (p : ElemStream) : (s.withOffer p).trace = s.trace := rfl
@[simp] theorem State.withOffer_lineCount (s : State) (p : ElemStream) : (s.withOffer p).lineCount = s.lineCount := rfl
@[simp] theorem State.withOffer_idrCount (s : State) (p : ElemStream) : (s.withOffer p).idrCount = s.idrCount := rfl
@[simp] theorem State.withOffer_offer (s : State) (p : ElemStream) : (s.withOffer p).offer = p := rfl
@[simp] theorem State.withOffer_inbox (s : State) (p : ElemStream) : (s.withOffer p).inbox = s.inbox := rfl
@[simp] theorem State.withOffer_params (s : State) (p : ElemStream) : (s.withOffer p).params = s.params := rfl
@[simp] theorem State.withOffer_lineAnswer (s : State) (p : ElemStream) (n : Nat) : (s.withOffer p).lineAnswer n = s.lineAnswer n := rfl
@[simp] theorem State.withOffer_idrValue (s : State) (p : ElemStream) (n : Nat) : (s.withOffer p).idrValue n = s.idrValue n := rfl

@[simp] theorem State.withInbox_lines (s : State) (es : HostPlan) : (s.withInbox es).lines = s.lines := rfl
@[simp] theorem State.withInbox_mode (s : State) (es : HostPlan) : (s.withInbox es).mode = s.mode := rfl
@[simp] theorem State.withInbox_pull (s : State) (es : HostPlan) : (s.withInbox es).pull = s.pull := rfl
@[simp] theorem State.withInbox_speed (s : State) (es : HostPlan) : (s.withInbox es).speed = s.speed := rfl
@[simp] theorem State.withInbox_odr (s : State) (es : HostPlan) : (s.withInbox es).odr = s.odr := rfl
@[simp] theorem State.withInbox_idSample (s : State) (es : HostPlan) : (s.withInbox es).idSample = s.idSample := rfl
@[simp] theorem State.withInbox_life (s : State) (es : HostPlan) : (s.withInbox es).life = s.life := rfl
@[simp] theorem State.withInbox_seq (s : State) (es : HostPlan) : (s.withInbox es).seq = s.seq := rfl
@[simp] theorem State.withInbox_trace (s : State) (es : HostPlan) : (s.withInbox es).trace = s.trace := rfl
@[simp] theorem State.withInbox_lineCount (s : State) (es : HostPlan) : (s.withInbox es).lineCount = s.lineCount := rfl
@[simp] theorem State.withInbox_idrCount (s : State) (es : HostPlan) : (s.withInbox es).idrCount = s.idrCount := rfl
@[simp] theorem State.withInbox_offer (s : State) (es : HostPlan) : (s.withInbox es).offer = s.offer := rfl
@[simp] theorem State.withInbox_inbox (s : State) (es : HostPlan) : (s.withInbox es).inbox = es := rfl
@[simp] theorem State.withInbox_params (s : State) (es : HostPlan) : (s.withInbox es).params = s.params := rfl
@[simp] theorem State.withInbox_lineAnswer (s : State) (es : HostPlan) (n : Nat) : (s.withInbox es).lineAnswer n = s.lineAnswer n := rfl
@[simp] theorem State.withInbox_idrValue (s : State) (es : HostPlan) (n : Nat) : (s.withInbox es).idrValue n = s.idrValue n := rfl

end Sys2Proof.Machine
end

