-- ==== Sys2Proof/Laws/Ops.lean ====
section
/-! SUPPORT. What the shared operations do, once each: the lines, a line operation, the port operations, ending an
operation, accepting one. -/

namespace Sys2Proof.Machine

@[simp] theorem Lines.get_set_same (ls : Lines) (l : LineId) (v : LineState) : (ls.set l v).get l = v := by
  cases l <;> rfl

theorem Lines.get_set_other (ls : Lines) {l l' : LineId} (v : LineState) (h : l' ≠ l) : (ls.set l v).get l' = ls.get l' := by
  cases l <;> cases l' <;> first | rfl | exact absurd rfl h

/-- Two records of lines that read alike are equal. -/
theorem Lines.ext_get {a b : Lines} (h : ∀ l, a.get l = b.get l) : a = b := by
  cases a
  cases b
  simpa [Lines.get] using And.intro (h .dc) (And.intro (h .wr) (And.intro (h .cs) (h .rd)))

@[simp] theorem levelAfter_ok (policy : FailLevelPolicy) (lvl : Level) (old : LineState) :
    levelAfter policy .ok lvl old = .known lvl := rfl

@[simp] theorem levelAfter_unchanged (lvl : Level) (old : LineState) :
    levelAfter .unchanged .fail lvl old = old := rfl

@[simp] theorem levelAfter_unknown (lvl : Level) (old : LineState) :
    levelAfter .unknown .fail lvl old = .unknown := rfl

section LineOperation

variable (l : LineId) (lvl : Level) (s : State)

@[simp] theorem lineOp_mode : (lineOp l lvl s).mode = s.mode := rfl
@[simp] theorem lineOp_pull : (lineOp l lvl s).pull = s.pull := rfl
@[simp] theorem lineOp_speed : (lineOp l lvl s).speed = s.speed := rfl
@[simp] theorem lineOp_odr : (lineOp l lvl s).odr = s.odr := rfl
@[simp] theorem lineOp_idSample : (lineOp l lvl s).idSample = s.idSample := rfl
@[simp] theorem lineOp_life : (lineOp l lvl s).life = s.life := rfl
@[simp] theorem lineOp_seq : (lineOp l lvl s).seq = s.seq := rfl
@[simp] theorem lineOp_idrCount : (lineOp l lvl s).idrCount = s.idrCount := rfl
@[simp] theorem lineOp_offer : (lineOp l lvl s).offer = s.offer := rfl
@[simp] theorem lineOp_inbox : (lineOp l lvl s).inbox = s.inbox := rfl
@[simp] theorem lineOp_params : (lineOp l lvl s).params = s.params := rfl
@[simp] theorem lineOp_lineCount : (lineOp l lvl s).lineCount = s.lineCount + 1 := rfl

@[simp] theorem lineOp_trace : (lineOp l lvl s).trace = s.trace ++ [.lineOp l lvl s.nextAnswer] := rfl

@[simp] theorem lineOp_lines :
    (lineOp l lvl s).lines = s.lines.set l (levelAfter s.params.failLevel s.nextAnswer lvl (s.lines.get l)) := rfl

@[simp] theorem lineOp_lineAnswer (n : Nat) : (lineOp l lvl s).lineAnswer n = s.lineAnswer n := rfl

theorem lineOp_get_other {l' : LineId} (h : l' ≠ l) : (lineOp l lvl s).lines.get l' = s.lines.get l' :=
  Lines.get_set_other _ _ h

end LineOperation

@[simp] theorem raised_ok (l : LineId) : raised l .ok = none := rfl
@[simp] theorem raised_cs (a : Answer) : raised .cs a = none := by cases a <;> rfl
@[simp] theorem raised_wr_fail : raised .wr .fail = some .busWriteError := rfl
@[simp] theorem raised_dc_fail : raised .dc .fail = some .dcError := rfl

/-- No line operation raises ChipSelectError (R151). -/
theorem raised_ne_chipSelect (l : LineId) (a : Answer) : raised l a ≠ some .chipSelectError := by
  cases l <;> cases a <;> decide

@[simp] theorem raiseOr_none (next : State → State) (s : State) : raiseOr none next s = next s := rfl
@[simp] theorem raiseOr_some (e : Err) (next : State → State) (s : State) : raiseOr (some e) next s = raise e s := rfl

@[simp] theorem finish_eq (r : Result) (s : State) :
    finish r s = { s with seq := .idle, trace := s.trace ++ [.ret r] } := rfl

@[simp] theorem raise_eq (e : Err) (s : State) :
    raise e s = { s with seq := .idle, trace := s.trace ++ [.ret (.err e)] } := rfl

theorem SeqState.isIdle_iff (q : SeqState) : q.isIdle = true ↔ q = .idle := by
  cases q <;> simp [SeqState.isIdle]

/-- A host operation that is accepted was asked for in Idle and in the LIFE it needs (R162, R163). -/
theorem accept_next {h : Byte} {needs : Lifecycle} {next : State → State} {s t : State}
    (ht : accept h needs next s = .next t) :
    s.seq = .idle ∧ s.life = needs ∧ t = next ((s.emit (.accept h)).withOffer ElemStream.empty) := by
  unfold accept at ht
  split at ht
  · rename_i hi
    split at ht
    · rename_i hl
      exact ⟨(SeqState.isIdle_iff _).mp hi, hl, by injection ht with ht; exact ht.symm⟩
    · cases ht
  · cases ht

end Sys2Proof.Machine
end

