-- ==== Sys2Proof/Laws/PerInstr.lean ====
section
/-! SUPPORT. Statements made per instruction. TableRow: an instruction's encoding has the width of its row of
opcode_table.json, and its bits are the row's pattern wherever the row fixes them. -/

namespace Sys2Proof.Laws.TableRow

def Statement (i : Instr) : Prop :=
  (encode i).tableWidth = i.row.width ∧ (encode i).tableBits &&& i.row.mask = i.row.pattern

theorem init : Statement .init := ⟨rfl, rfl⟩
theorem sendCmdU8 : Statement .sendCmdU8 := ⟨rfl, rfl⟩
theorem sendCmdU16 : Statement .sendCmdU16 := ⟨rfl, rfl⟩
theorem sendCmdU16BE : Statement .sendCmdU16BE := ⟨rfl, rfl⟩
theorem sendCmdU16LE : Statement .sendCmdU16LE := ⟨rfl, rfl⟩
theorem sendCmdU8Iter : Statement .sendCmdU8Iter := ⟨rfl, rfl⟩
theorem sendCmdU16Iter : Statement .sendCmdU16Iter := ⟨rfl, rfl⟩
theorem sendCmdU16BEIter : Statement .sendCmdU16BEIter := ⟨rfl, rfl⟩
theorem sendCmdU16LEIter : Statement .sendCmdU16LEIter := ⟨rfl, rfl⟩
theorem sendCmdUnsupported (c : BitVec 3) : Statement (.sendCmdUnsupported c) := by
  revert c
  unfold Statement
  decide
theorem sendDataU8 : Statement .sendDataU8 := ⟨rfl, rfl⟩
theorem sendDataU16 : Statement .sendDataU16 := ⟨rfl, rfl⟩
theorem sendDataU16BE : Statement .sendDataU16BE := ⟨rfl, rfl⟩
theorem sendDataU16LE : Statement .sendDataU16LE := ⟨rfl, rfl⟩
theorem sendDataU8Iter : Statement .sendDataU8Iter := ⟨rfl, rfl⟩
theorem sendDataU16Iter : Statement .sendDataU16Iter := ⟨rfl, rfl⟩
theorem sendDataU16BEIter : Statement .sendDataU16BEIter := ⟨rfl, rfl⟩
theorem sendDataU16LEIter : Statement .sendDataU16LEIter := ⟨rfl, rfl⟩
theorem sendDataUnsupported (c : BitVec 3) : Statement (.sendDataUnsupported c) := by
  revert c
  unfold Statement
  decide
theorem release : Statement .release := ⟨rfl, rfl⟩
theorem csLow : Statement .csLow := ⟨rfl, rfl⟩
theorem csHigh : Statement .csHigh := ⟨rfl, rfl⟩
theorem wrLow : Statement .wrLow := ⟨rfl, rfl⟩
theorem wrHigh : Statement .wrHigh := ⟨rfl, rfl⟩
theorem dcLow : Statement .dcLow := ⟨rfl, rfl⟩
theorem dcHigh : Statement .dcHigh := ⟨rfl, rfl⟩
theorem rdLow : Statement .rdLow := ⟨rfl, rfl⟩
theorem rdHigh : Statement .rdHigh := ⟨rfl, rfl⟩
theorem cfgOut : Statement .cfgOut := ⟨rfl, rfl⟩
theorem cfgIn : Statement .cfgIn := ⟨rfl, rfl⟩
theorem odrWrite (v : Word32) : Statement (.odrWrite v) := ⟨rfl, show ((10 : Nat) &&& 15) = 10 by decide⟩
theorem idrRead : Statement .idrRead := ⟨rfl, rfl⟩
theorem driveWord (w : Word16) : Statement (.driveWord w) := ⟨rfl, show ((12 : Nat) &&& 15) = 12 by decide⟩
theorem writeSequence : Statement .writeSequence := ⟨rfl, rfl⟩
theorem writePayload : Statement .writePayload := ⟨rfl, rfl⟩

end Sys2Proof.Laws.TableRow
end

