-- ==== Sys2Proof/Laws/Step.lean ====
section
/-! SUPPORT. What the fetch gives in each situation, and what a step can do. -/

namespace Sys2Proof.Machine

/-- While an operation runs, a host that waits has nothing due (R182 a). -/
theorem hostDue_of_busy {s : State} (hw : s.hostWaits = true) (hb : s.seq ≠ .idle) : hostDue s = none := by
  have hi : s.seq.isIdle = false := Bool.eq_false_iff.mpr fun h => hb ((SeqState.isIdle_iff _).mp h)
  unfold hostDue
  cases hx : s.inbox.next with
  | none => rfl
  | some q =>
    have hq : q.1.waits = true := (HostPlan.waits_of_next (e := q.1) (rest := q.2) hx).symm.trans hw
    simp [hi, hq]

/-- In Idle the host's first event is due. -/
theorem hostDue_of_idle {s : State} {e : HostEvent} {rest : HostPlan} (hi : s.seq = .idle)
    (hx : s.inbox.next = some (e, rest)) : hostDue s = some e := by
  simp [hostDue, hx, hi, SeqState.isIdle]

/-- In an operation with nothing due, the fetch is the operation SEQ stands for. -/
theorem fetchNext_of_issued {s : State} {i : Instr} (hd : hostDue s = none)
    (hi : issued s.params.initOrder s.seq = some i) : fetchNext s = .run i s := by
  simp [fetchNext, hd, hi]

/-- What a step can do: rest, reset, or run the fetched instruction and advance. -/
theorem step_next_cases {s t : State} (h : step s = .next t) :
    (fetchNext s = .rest ∧ t = s) ∨ fetchNext s = .reset t ∨
    (∃ i u v, fetchNext s = .run i u ∧ exec i u = .next v ∧ t = advance u.seq u.nextAnswer v) := by
  unfold step at h
  split at h
  · rename_i hf
    injection h with h
    exact .inl ⟨hf, h.symm⟩
  · rename_i hf
    injection h with h
    exact .inr (.inl (h ▸ hf))
  · cases h
  · rename_i i u hf
    split at h
    · rename_i v hv
      injection h with h
      exact .inr (.inr ⟨i, u, v, hf, hv, h.symm⟩)
    · cases h
    · cases h

/-- What the fetch can give, read backwards. -/
theorem fetchNext_run {s u : State} {i : Instr} (h : fetchNext s = .run i u) :
    (∃ b d w, hostDue s = some (.op b d w) ∧ decodeHeader b = .ok i ∧
      u = { s with inbox := s.inbox.rest, offer := d }) ∨
    (hostDue s = none ∧ issued s.params.initOrder s.seq = some i ∧ u = s) := by
  unfold fetchNext at h
  split at h
  · rename_i b d w hd
    split at h
    · rename_i j hj
      injection h with h1 h2
      exact .inl ⟨b, d, w, hd, h1 ▸ hj, h2.symm⟩
    · cases h
  · split at h <;> cases h
  · rename_i hd
    split at h
    · rename_i j hj
      injection h with h1 h2
      exact .inr ⟨hd, h1 ▸ hj, h2.symm⟩
    · cases h

/-- A header decodes to a host operation: INIT, RELEASE, SEND_CMD or SEND_DATA with some tag (R72). -/
theorem decodeHeader_host {h : Byte} {i : Instr} (hd : decodeHeader h = .ok i) :
    i = .init ∨ i = .release ∨ (∃ f, i = sendCmdOf f) ∨ ∃ f, i = sendDataOf f := by
  unfold decodeHeader at hd
  split at hd
  · split at hd
    · injection hd with hd; exact .inl hd.symm
    · cases hd
  · injection hd with hd; exact .inr (.inr (.inl ⟨_, hd.symm⟩))
  · injection hd with hd; exact .inr (.inr (.inr ⟨_, hd.symm⟩))
  · split at hd
    · injection hd with hd; exact .inr (.inl hd.symm)
    · cases hd
  · cases hd

theorem exec_sendCmdOf (f : Fmt) (s : State) : exec (sendCmdOf f) s = acceptSend .cmd f s := by
  cases f <;> rfl

theorem exec_sendDataOf (f : Fmt) (s : State) : exec (sendDataOf f) s = acceptSend .data f s := by
  cases f <;> rfl

/-- A step while an operation runs and the host waits: the operation SEQ stands for, run, and SEQ moved on. -/
theorem step_of_issued {s u : State} {i : Instr} (hw : s.hostWaits = true) (hi : issued s.params.initOrder s.seq = some i)
    (hx : exec i s = .next u) : step s = .next (advance s.seq s.nextAnswer u) := by
  have hb : s.seq ≠ .idle := fun h => by simp [h, issued] at hi
  simp [step, fetchNext_of_issued (hostDue_of_busy hw hb) hi, hx]

theorem runSteps_zero (s : State) : runSteps 0 s = .next s := rfl

theorem runSteps_succ {k : Nat} {s t : State} (h : step s = .next t) : runSteps (k + 1) s = runSteps k t := by
  simp [runSteps, h]

/-- Runs of steps compose. -/
theorem runSteps_add {k m : Nat} {s t : State} (h : runSteps k s = .next t) : runSteps (k + m) s = runSteps m t := by
  induction k generalizing s with
  | zero => cases h; rw [Nat.zero_add]
  | succ k ih =>
    rw [Nat.add_right_comm]
    cases hs : step s with
    | next u => rw [runSteps_succ hs] at h ⊢; exact ih h
    | fault f => simp [runSteps, hs] at h
    | refused r => simp [runSteps, hs] at h

/-- What a step that gives a next state can do, one constructor a case: rest, a reset, the acceptance of a host operation
(R112, R115, R134), a micro-step of INIT (R112), and the rows of R134. -/
inductive StepTo (s : State) : State → Prop
  | rest (hi : s.seq = .idle) : StepTo s s
  | reset (w : Bool) (hi : s.seq = .idle) (hd : hostDue s = some (.reset w)) : StepTo s (resetEvent s)
  | acceptInit (d : ElemStream) (w : Bool) (hi : s.seq = .idle) (hl : s.life = .uninit)
      (hd : hostDue s = some (.op 0x00#8 d w)) :
      StepTo s { s with inbox := s.inbox.rest, offer := ElemStream.empty, seq := .initStep .m1,
                        trace := s.trace ++ [.accept 0x00#8] }
  | acceptRelease (d : ElemStream) (w : Bool) (hi : s.seq = .idle) (hl : s.life = .ready)
      (hd : hostDue s = some (.op 0x30#8 d w)) :
      StepTo s { s with inbox := s.inbox.rest, offer := ElemStream.empty, life := .released,
                        trace := s.trace ++ [.accept 0x30#8] ++ [.ret .ok] }
  | acceptSend (b : Byte) (d : ElemStream) (w : Bool) (kind : SendKind) (f : Fmt) (hi : s.seq = .idle)
      (hl : s.life = .ready) (hd : hostDue s = some (.op b d w)) :
      StepTo s { s with inbox := s.inbox.rest, offer := ElemStream.empty, seq := .dcPending kind ⟨f, d⟩,
                        trace := s.trace ++ [.accept (sendHeader kind f)] }
  | initStep (k : InitStep) (u : State) (hq : s.seq = .initStep k)
      (hu : exec (initOp s.params.initOrder k) s = .next u) : StepTo s (afterInitStep k u)
  | dc (kind : SendKind) (p : Payload) (hq : s.seq = .dcPending kind p) :
      StepTo s (raiseOr (raised .dc s.nextAnswer) (fun t => t.withSeq (.dcSet p)) (lineOp .dc (dcLevel kind) s))
  | dispatch (p : Payload) (wd : ElemWidth) (hq : s.seq = .dcSet p) (hf : widthOf p.fmt = some wd) :
      StepTo s (s.withSeq (.fetch 0 ⟨wd, p.data⟩))
  | unsupported (p : Payload) (hq : s.seq = .dcSet p) (hf : widthOf p.fmt = none) :
      StepTo s (raise .unsupportedFormat s)
  | pull (i : Nat) (ws rest : WordSeq) (e : Elem) (hq : s.seq = .fetch i ws) (hn : ws.next = some (e, rest)) :
      StepTo s ((s.emit (.pull i (.elem e))).withSeq (.writing i (wordOf e) .d1 rest))
  | pullEnd (i : Nat) (ws : WordSeq) (hq : s.seq = .fetch i ws) (hn : ws.next = none) :
      StepTo s (finish .ok (s.emit (.pull i .ended)))
  | word1 (i : Nat) (w : Word16) (ws : WordSeq) (hq : s.seq = .writing i w .d1 ws) :
      StepTo s ((lineOp .cs .low s).withSeq (.writing i w .d2 ws))
  | word2 (i : Nat) (w : Word16) (ws : WordSeq) (hq : s.seq = .writing i w .d2 ws) :
      StepTo s (raiseOr (raised .wr s.nextAnswer) (fun t => t.withSeq (.writing i w .d3 ws)) (lineOp .wr .low s))
  | word3 (i : Nat) (w : Word16) (ws : WordSeq) (hq : s.seq = .writing i w .d3 ws) :
      StepTo s ((writeOdr (zext32 w) s).withSeq (.writing i w .d4 ws))
  | word4 (i : Nat) (w : Word16) (ws : WordSeq) (hq : s.seq = .writing i w .d4 ws) :
      StepTo s (raiseOr (raised .wr s.nextAnswer) (fun t => t.withSeq (.writing i w .d5 ws)) (lineOp .wr .high s))
  | word5 (i : Nat) (w : Word16) (ws : WordSeq) (hq : s.seq = .writing i w .d5 ws) :
      StepTo s ((lineOp .cs .high s).withSeq (.fetch (i + 1) ws))

/-- Only header 0x00 is INIT, only 0x30 is RELEASE (R72, R82). -/
theorem header_of_init {b : Byte} (h : decodeHeader b = .ok .init) : b = 0x00#8 :=
  (by decide : ∀ x : Byte, decodeHeader x = .ok .init → x = 0x00#8) b h

theorem header_of_release {b : Byte} (h : decodeHeader b = .ok .release) : b = 0x30#8 :=
  (by decide : ∀ x : Byte, decodeHeader x = .ok .release → x = 0x30#8) b h

theorem stepTo_of_host {s v : State} {b : Byte} {d : ElemStream} {w : Bool} {i : Instr}
    (hd : hostDue s = some (.op b d w)) (hb : decodeHeader b = .ok i)
    (hv : exec i { s with inbox := s.inbox.rest, offer := d } = .next v) :
    StepTo s (advance s.seq ({ s with inbox := s.inbox.rest, offer := d } : State).nextAnswer v) := by
  rcases decodeHeader_host hb with rfl | rfl | ⟨f, rfl⟩ | ⟨f, rfl⟩
  · simp only [exec, execInit] at hv
    obtain ⟨h1, h2, rfl⟩ := accept_next hv
    have hi : s.seq = .idle := h1
    rw [hi]
    exact .acceptInit d w hi h2 (header_of_init hb ▸ hd)
  · simp only [exec, execRelease] at hv
    obtain ⟨h1, h2, rfl⟩ := accept_next hv
    have hi : s.seq = .idle := h1
    have := StepTo.acceptRelease d w hi h2 (header_of_release hb ▸ hd)
    rw [hi]
    simpa [advance, State.withLife, hi] using this
  · rw [exec_sendCmdOf, acceptSend] at hv
    obtain ⟨h1, h2, rfl⟩ := accept_next hv
    have hi : s.seq = .idle := h1
    rw [hi]
    exact .acceptSend b d w .cmd f hi h2 hd
  · rw [exec_sendDataOf, acceptSend] at hv
    obtain ⟨h1, h2, rfl⟩ := accept_next hv
    have hi : s.seq = .idle := h1
    rw [hi]
    exact .acceptSend b d w .data f hi h2 hd

theorem stepTo_of_issued {s v : State} {i : Instr} (hi : issued s.params.initOrder s.seq = some i)
    (hv : exec i s = .next v) : StepTo s (advance s.seq s.nextAnswer v) := by
  cases hq : s.seq with
  | idle => rw [hq] at hi; cases hi
  | initStep k =>
    rw [hq] at hi
    cases hi
    exact .initStep k v hq hv
  | dcPending kind p =>
    rw [hq] at hi
    cases kind <;> cases hi <;> cases hv <;> exact .dc _ p hq
  | dcSet p =>
    rw [hq] at hi
    cases hi
    simp only [exec, execWritePayload, hq] at hv
    cases hf : widthOf p.fmt with
    | none => rw [hf] at hv; cases hv; exact .unsupported p hq hf
    | some wd => rw [hf] at hv; cases hv; exact .dispatch p wd hq hf
  | fetch n ws =>
    rw [hq] at hi
    cases hi
    simp only [exec, execWriteSequence, hq] at hv
    cases hn : ws.next with
    | none => rw [hn] at hv; cases hv; exact .pullEnd n ws hq hn
    | some q => rw [hn] at hv; cases hv; exact .pull n ws q.2 q.1 hq hn
  | writing n w k ws =>
    rw [hq] at hi
    cases k <;> cases hi <;> cases hv
    · simpa [advance, afterWordStep] using StepTo.word1 n w ws hq
    · exact .word2 n w ws hq
    · exact .word3 n w ws hq
    · exact .word4 n w ws hq
    · simpa [advance, afterWordStep] using StepTo.word5 n w ws hq

/-- The inversion of a step: it does one of the things `StepTo` lists. -/
theorem step_inversion {s t : State} (h : step s = .next t) : StepTo s t := by
  rcases step_next_cases h with ⟨hf, rfl⟩ | hf | ⟨i, u, v, hf, hv, rfl⟩
  · unfold fetchNext at hf
    split at hf
    · split at hf <;> cases hf
    · split at hf <;> cases hf
    · split at hf
      · cases hf
      · rename_i hi
        cases hq : t.seq with
        | idle => exact .rest hq
        | dcPending kind p => cases kind <;> rw [hq] at hi <;> cases hi
        | initStep k => rw [hq] at hi; cases hi
        | dcSet p => rw [hq] at hi; cases hi
        | fetch n ws => rw [hq] at hi; cases hi
        | writing n w k ws => rw [hq] at hi; cases hi
  · unfold fetchNext at hf
    split at hf
    · split at hf <;> cases hf
    · rename_i w hd
      split at hf
      · rename_i hi
        cases hf
        exact .reset w ((SeqState.isIdle_iff _).mp hi) hd
      · cases hf
    · split at hf <;> cases hf
  · rcases fetchNext_run hf with ⟨b, d, w, hd, hb, rfl⟩ | ⟨_, hi, rfl⟩
    · exact stepTo_of_host hd hb hv
    · exact stepTo_of_issued hi hv

end Sys2Proof.Machine
end

