-- ==== Sys2Proof/Tests/Slice0.lean ====
section
/-! SUPPORT. Tests: the well-formedness check, decoding words written out from the spec's tables, one step of each operation
with the values of 95_test_vectors.md, and for each statement with hypotheses a state and operands that meet them. -/

namespace Sys2Proof.Tests

open Sys2Proof Sys2Proof.Machine

/-! ## Helpers -/

/-- A machine with LIFE, SEQ, the answers of the next line operations and the host's next actions as given. -/
def machine (life : Lifecycle) (q : SeqState) (answers : List Answer) (inbox : List HostEvent) : State :=
  { State.reset with life := life, seq := q, inbox := ⟨inbox, .ended⟩, params := ⟨.unchanged, .dcFirst, answers, [0xFFFF1234#32]⟩ }

/-- The state POST of 95_test_vectors.md (PULL and SPEED left out), with lines and answers as given. -/
def post (ls : Lines) (answers : List Answer) : State :=
  { machine .ready .idle answers [] with
    lines := ls, mode := .known (Vector.replicate busLines .output), odr := .known 0#32, idSample := .known 0x1234#16 }

/-- All four lines high, as INIT leaves them. -/
def allHigh : Lines := ⟨.known .high, .known .high, .known .high, .known .high⟩

def withPolicy (s : State) (p : FailLevelPolicy) : State := { s with params := { s.params with failLevel := p } }

/-- The next state of an outcome, if it is one. -/
def nextOf : Host.Outcome State Fault Refusal → Option State
  | .next t => some t
  | .fault _ => none
  | .refused _ => none

/-- The refusal of an outcome, if it is one. -/
def refusalOf : Host.Outcome State Fault Refusal → Option Refusal
  | .next _ => none
  | .fault _ => none
  | .refused r => some r

/-- A payload of these elements. -/
def buffer (xs : List Word16) : ElemStream := ⟨xs, .ended⟩

/-! ## Well-formed instructions (R101) -/

theorem test_wf_odrWrite_largest : (Instr.odrWrite 0x0000FFFF#32).wellFormed = true := by decide
theorem test_wf_odrWrite_upper_bit_refused : (Instr.odrWrite 0x00010000#32).wellFormed = false := by decide
theorem test_wf_odrWrite_top_bit_refused : (Instr.odrWrite 0x80000000#32).wellFormed = false := by decide

/-! ## Decoding (R71 to R73, R76, R78; vectors V73, V75): words written out bit by bit -/

theorem test_decode_init : decodeHeader 0b00000000#8 = .ok .init := by decide
theorem test_decode_release : decodeHeader 0b00110000#8 = .ok .release := by decide
theorem test_decode_sendCmdU8 : decodeHeader 0b00010000#8 = .ok .sendCmdU8 := by decide
theorem test_decode_sendCmdU16 : decodeHeader 0b00010001#8 = .ok .sendCmdU16 := by decide
theorem test_decode_sendCmdU16BE : decodeHeader 0b00010010#8 = .ok .sendCmdU16BE := by decide
theorem test_decode_sendCmdU16LE : decodeHeader 0b00010011#8 = .ok .sendCmdU16LE := by decide
theorem test_decode_sendCmdU8Iter : decodeHeader 0b00010100#8 = .ok .sendCmdU8Iter := by decide
theorem test_decode_sendCmdU16Iter : decodeHeader 0b00010101#8 = .ok .sendCmdU16Iter := by decide
theorem test_decode_sendCmdU16BEIter : decodeHeader 0b00010110#8 = .ok .sendCmdU16BEIter := by decide
theorem test_decode_sendCmdU16LEIter : decodeHeader 0b00010111#8 = .ok .sendCmdU16LEIter := by decide
theorem test_decode_sendCmdUnsupported_first : decodeHeader 0b00011000#8 = .ok (.sendCmdUnsupported 0b000#3) := by decide
theorem test_decode_sendCmdUnsupported_last : decodeHeader 0b00011111#8 = .ok (.sendCmdUnsupported 0b111#3) := by decide
theorem test_decode_sendDataU8 : decodeHeader 0b00100000#8 = .ok .sendDataU8 := by decide
theorem test_decode_sendDataU16 : decodeHeader 0b00100001#8 = .ok .sendDataU16 := by decide
theorem test_decode_sendDataU16BE : decodeHeader 0b00100010#8 = .ok .sendDataU16BE := by decide
theorem test_decode_sendDataU16LE : decodeHeader 0b00100011#8 = .ok .sendDataU16LE := by decide
theorem test_decode_sendDataU8Iter : decodeHeader 0b00100100#8 = .ok .sendDataU8Iter := by decide
theorem test_decode_sendDataU16Iter : decodeHeader 0b00100101#8 = .ok .sendDataU16Iter := by decide
theorem test_decode_sendDataU16BEIter : decodeHeader 0b00100110#8 = .ok .sendDataU16BEIter := by decide
theorem test_decode_sendDataU16LEIter : decodeHeader 0b00100111#8 = .ok .sendDataU16LEIter := by decide
theorem test_decode_sendDataUnsupported_first : decodeHeader 0b00101000#8 = .ok (.sendDataUnsupported 0b000#3) := by decide
theorem test_decode_sendDataUnsupported_last : decodeHeader 0b00101111#8 = .ok (.sendDataUnsupported 0b111#3) := by decide
theorem test_decode_csLow : decodeMicro 0b0000#4 0#32 = .ok .csLow := by decide
theorem test_decode_csHigh : decodeMicro 0b0001#4 0#32 = .ok .csHigh := by decide
theorem test_decode_wrLow : decodeMicro 0b0010#4 0#32 = .ok .wrLow := by decide
theorem test_decode_wrHigh : decodeMicro 0b0011#4 0#32 = .ok .wrHigh := by decide
theorem test_decode_dcLow : decodeMicro 0b0100#4 0#32 = .ok .dcLow := by decide
theorem test_decode_dcHigh : decodeMicro 0b0101#4 0#32 = .ok .dcHigh := by decide
theorem test_decode_rdLow : decodeMicro 0b0110#4 0#32 = .ok .rdLow := by decide
theorem test_decode_rdHigh : decodeMicro 0b0111#4 0#32 = .ok .rdHigh := by decide
theorem test_decode_cfgOut : decodeMicro 0b1000#4 0#32 = .ok .cfgOut := by decide
theorem test_decode_cfgIn : decodeMicro 0b1001#4 0#32 = .ok .cfgIn := by decide
theorem test_decode_odrWrite : decodeMicro 0b1010#4 0x00005555#32 = .ok (.odrWrite 0x00005555#32) := by decide
theorem test_decode_idrRead : decodeMicro 0b1011#4 0#32 = .ok .idrRead := by decide
theorem test_decode_driveWord : decodeMicro 0b1100#4 0x0000AAAA#32 = .ok (.driveWord 0xAAAA#16) := by decide
theorem test_decode_writeSequence : decodeMicro 0b1101#4 0#32 = .ok .writeSequence := by decide
theorem test_decode_writePayload : decodeMicro 0b1110#4 0#32 = .ok .writePayload := by decide
theorem test_decode_reserved : decodeMicro 0b1111#4 0#32 = .error .reservedCode := by decide
theorem test_decode_stray_operand : decodeMicro 0b0000#4 1#32 = .error (.strayOperand 0#4) := by decide
theorem test_decode_init_with_fmt : decodeHeader 0x01#8 = .error (.invalidHeader 0x01#8) := by decide
theorem test_decode_release_with_fmt : decodeHeader 0x3F#8 = .error (.invalidHeader 0x3F#8) := by decide
theorem test_decode_reserved_op : decodeHeader 0x40#8 = .error (.invalidHeader 0x40#8) := by decide
theorem test_tableWord_header : decodeTableWord 8 0x27 = some .sendDataU16LEIter := by decide
theorem test_tableWord_code : decodeTableWord 4 0xC = some (.driveWord 0#16) := by decide
theorem test_tableWord_code_in_a_byte : decodeTableWord 8 0x0E = some .writePayload := by decide
theorem test_tableWord_none : decodeTableWord 8 0x40 = none := by decide

/-! ## Line and port micro-operations (vectors V1 to V18) -/

theorem test_csLow_V1 : (nextOf (exec .csLow (post allHigh [.ok]))).map (·.lines) =
    some ⟨.known .high, .known .high, .known .low, .known .high⟩ := by decide
theorem test_csHigh_V2 : (nextOf (exec .csHigh (post (allHigh.set .cs (.known .low)) [.ok]))).map (·.lines) =
    some allHigh := by decide
theorem test_wrLow_V3 : (nextOf (exec .wrLow (post allHigh [.ok]))).map (·.trace) =
    some [.lineOp .wr .low .ok] := by decide
theorem test_wrLow_fail_V9 : (nextOf (exec .wrLow (post allHigh [.fail]))).map (·.lines) = some allHigh := by decide
theorem test_wrHigh_V4 : (nextOf (exec .wrHigh (post (allHigh.set .wr (.known .low)) [.ok]))).map (·.lines.wr) =
    some (.known .high) := by decide
theorem test_wrHigh_fail_unknown_V19a :
    (nextOf (exec .wrHigh (withPolicy (post (allHigh.set .wr (.known .low)) [.fail]) .unknown))).map (·.lines.wr) =
    some .unknown := by decide
theorem test_dcLow_V5 : (nextOf (exec .dcLow (post allHigh [.ok]))).map (·.lines.dc) = some (.known .low) := by decide
theorem test_dcHigh_V6 : (nextOf (exec .dcHigh (post (allHigh.set .dc (.known .low)) [.ok]))).map (·.lines.dc) =
    some (.known .high) := by decide
theorem test_rdLow_V7 : (nextOf (exec .rdLow (post (allHigh.set .cs (.known .low)) [.ok]))).map (·.lines) =
    some ⟨.known .high, .known .high, .known .low, .known .low⟩ := by decide
theorem test_rdHigh_V12 : (nextOf (exec .rdHigh (machine .uninit .idle [.ok] []))).map (·.lines) =
    some ⟨.unknown, .unknown, .unknown, .known .high⟩ := by decide
theorem test_cfgOut_V14 : (nextOf (exec .cfgOut State.reset)).map (fun t => (t.mode, t.odr)) =
    some (.known (Vector.replicate busLines .output), .unknown) := by decide
theorem test_cfgIn_V15 : (nextOf (exec .cfgIn (post allHigh []))).map (fun t => (t.mode, t.odr)) =
    some (.known (Vector.replicate busLines .input), .known 0#32) := by decide
theorem test_odrWrite_V16 : (nextOf (exec (.odrWrite 0x00005555#32) (post allHigh []))).map (·.odr) =
    some (.known 0x00005555#32) := by decide
theorem test_idrRead_V18 : (nextOf (exec .idrRead (machine .uninit .idle [] []))).map (fun t => (t.idSample, t.trace)) =
    some (.known 0x1234#16, [.idrRead 0xFFFF1234#32]) := by decide

/-! ## DRIVE_WORD, INIT, RELEASE (vectors V20 to V33) -/

theorem test_driveWord_V30 :
    (nextOf (exec (.driveWord 0xAAAA#16) (post allHigh [.ok, .ok, .ok, .ok]))).map (fun t => (t.trace, t.odr, t.lines)) =
    some ([.lineOp .cs .low .ok, .lineOp .wr .low .ok, .odrWrite 0x0000AAAA#32, .lineOp .wr .high .ok, .lineOp .cs .high .ok],
      .known 0x0000AAAA#32, allHigh) := by decide
theorem test_driveWord_V33 :
    (nextOf (exec (.driveWord 0xAAAA#16) (post allHigh [.ok, .ok, .fail]))).map (fun t => (t.trace, t.lines)) =
    some ([.lineOp .cs .low .ok, .lineOp .wr .low .ok, .odrWrite 0x0000AAAA#32, .lineOp .wr .high .fail],
      ⟨.known .high, .known .low, .known .low, .known .high⟩) := by decide
theorem test_init_V63 : (nextOf (exec .init State.reset)).map (fun t => (t.seq, t.trace)) =
    some (.initStep .m1, [.accept 0x00#8]) := by decide
theorem test_init_refused_V64 : refusalOf (exec .init (post allHigh [])) = some (.lifecycle .ready) := by decide
theorem test_release_V23 : (nextOf (exec .release (post allHigh []))).map (fun t => (t.life, t.trace)) =
    some (.released, [.accept 0x30#8, .ret .ok]) := by decide
theorem test_release_refused_V62 : refusalOf (exec .release State.reset) = some (.lifecycle .uninit) := by decide

/-! ## The send operations (vectors V40, V43, V60, V72): acceptance -/

theorem test_sendCmdU8 : (nextOf (exec .sendCmdU8 (post allHigh []))).map (fun t => (t.seq, t.trace)) =
    some (.dcPending .cmd ⟨.u8, ElemStream.empty⟩, [.accept 0x10#8]) := by decide
theorem test_sendCmdU16 : (nextOf (exec .sendCmdU16 (post allHigh []))).map (fun t => (t.seq, t.trace)) =
    some (.dcPending .cmd ⟨.u16, ElemStream.empty⟩, [.accept 0x11#8]) := by decide
theorem test_sendCmdU16BE : (nextOf (exec .sendCmdU16BE (post allHigh []))).map (fun t => (t.seq, t.trace)) =
    some (.dcPending .cmd ⟨.u16be, ElemStream.empty⟩, [.accept 0x12#8]) := by decide
theorem test_sendCmdU16LE : (nextOf (exec .sendCmdU16LE (post allHigh []))).map (fun t => (t.seq, t.trace)) =
    some (.dcPending .cmd ⟨.u16le, ElemStream.empty⟩, [.accept 0x13#8]) := by decide
theorem test_sendCmdU8Iter : (nextOf (exec .sendCmdU8Iter (post allHigh []))).map (fun t => (t.seq, t.trace)) =
    some (.dcPending .cmd ⟨.u8Iter, ElemStream.empty⟩, [.accept 0x14#8]) := by decide
theorem test_sendCmdU16Iter : (nextOf (exec .sendCmdU16Iter (post allHigh []))).map (fun t => (t.seq, t.trace)) =
    some (.dcPending .cmd ⟨.u16Iter, ElemStream.empty⟩, [.accept 0x15#8]) := by decide
theorem test_sendCmdU16BEIter : (nextOf (exec .sendCmdU16BEIter (post allHigh []))).map (fun t => (t.seq, t.trace)) =
    some (.dcPending .cmd ⟨.u16beIter, ElemStream.empty⟩, [.accept 0x16#8]) := by decide
theorem test_sendCmdU16LEIter : (nextOf (exec .sendCmdU16LEIter (post allHigh []))).map (fun t => (t.seq, t.trace)) =
    some (.dcPending .cmd ⟨.u16leIter, ElemStream.empty⟩, [.accept 0x17#8]) := by decide
theorem test_sendCmdUnsupported : (nextOf (exec (.sendCmdUnsupported 7#3) (post allHigh []))).map (fun t => (t.seq, t.trace)) =
    some (.dcPending .cmd ⟨.other 7#3, ElemStream.empty⟩, [.accept 0x1F#8]) := by decide
theorem test_sendDataU8 : (nextOf (exec .sendDataU8 (post allHigh []))).map (fun t => (t.seq, t.trace)) =
    some (.dcPending .data ⟨.u8, ElemStream.empty⟩, [.accept 0x20#8]) := by decide
theorem test_sendDataU16 : (nextOf (exec .sendDataU16 (post allHigh []))).map (fun t => (t.seq, t.trace)) =
    some (.dcPending .data ⟨.u16, ElemStream.empty⟩, [.accept 0x21#8]) := by decide
theorem test_sendDataU16BE : (nextOf (exec .sendDataU16BE (post allHigh []))).map (fun t => (t.seq, t.trace)) =
    some (.dcPending .data ⟨.u16be, ElemStream.empty⟩, [.accept 0x22#8]) := by decide
theorem test_sendDataU16LE : (nextOf (exec .sendDataU16LE (post allHigh []))).map (fun t => (t.seq, t.trace)) =
    some (.dcPending .data ⟨.u16le, ElemStream.empty⟩, [.accept 0x23#8]) := by decide
theorem test_sendDataU8Iter : (nextOf (exec .sendDataU8Iter (post allHigh []))).map (fun t => (t.seq, t.trace)) =
    some (.dcPending .data ⟨.u8Iter, ElemStream.empty⟩, [.accept 0x24#8]) := by decide
theorem test_sendDataU16Iter : (nextOf (exec .sendDataU16Iter (post allHigh []))).map (fun t => (t.seq, t.trace)) =
    some (.dcPending .data ⟨.u16Iter, ElemStream.empty⟩, [.accept 0x25#8]) := by decide
theorem test_sendDataU16BEIter : (nextOf (exec .sendDataU16BEIter (post allHigh []))).map (fun t => (t.seq, t.trace)) =
    some (.dcPending .data ⟨.u16beIter, ElemStream.empty⟩, [.accept 0x26#8]) := by decide
theorem test_sendDataU16LEIter : (nextOf (exec .sendDataU16LEIter (post allHigh []))).map (fun t => (t.seq, t.trace)) =
    some (.dcPending .data ⟨.u16leIter, ElemStream.empty⟩, [.accept 0x27#8]) := by decide
theorem test_sendDataUnsupported : (nextOf (exec (.sendDataUnsupported 7#3) (post allHigh []))).map (fun t => (t.seq, t.trace)) =
    some (.dcPending .data ⟨.other 7#3, ElemStream.empty⟩, [.accept 0x2F#8]) := by decide
theorem test_send_refused_V60 : refusalOf (exec .sendCmdU8 State.reset) = some (.lifecycle .uninit) := by decide
theorem test_send_busy_V68 :
    refusalOf (exec .sendCmdU8 (machine .ready (.writing 0 1#16 .d3 ⟨.word, ElemStream.empty⟩) [] [])) = some .busy := by decide

/-! ## WRITE_PAYLOAD and WRITE_SEQUENCE (R132, R133; vectors V40, V42, V43) -/

theorem test_writePayload_word :
    (nextOf (exec .writePayload (machine .ready (.dcSet ⟨.u16le, buffer [0x1234#16]⟩) [] []))).map (·.seq) =
    some (.fetch 0 ⟨.word, buffer [0x1234#16]⟩) := by decide
theorem test_writePayload_unsupported :
    (nextOf (exec .writePayload (machine .ready (.dcSet ⟨.other 0#3, buffer [1#16]⟩) [] []))).map (·.trace) =
    some [.ret (.err .unsupportedFormat)] := by decide
theorem test_writeSequence_byte_FF :
    (nextOf (exec .writeSequence (machine .ready (.fetch 0 ⟨.byte, buffer [0x00FF#16]⟩) [] []))).map (fun t => (t.seq, t.trace)) =
    some (.writing 0 0x00FF#16 .d1 ⟨.byte, buffer []⟩, [.pull 0 (.elem (.byte 0xFF#8))]) := by decide
theorem test_writeSequence_end_V42 :
    (nextOf (exec .writeSequence (machine .ready (.fetch 0 ⟨.byte, buffer []⟩) [] []))).map (fun t => (t.seq, t.trace)) =
    some (.idle, [.pull 0 .ended, .ret .ok]) := by decide

/-! ## The step -/

theorem test_step_accepts_from_the_host :
    (nextOf (step (machine .ready .idle [] [.op 0x22#8 (buffer [0xAAAA#16]) true]))).map (fun t => (t.seq, t.inbox)) =
    some (.dcPending .data ⟨.u16be, buffer [0xAAAA#16]⟩, HostPlan.empty) := by decide
theorem test_step_dc_fail_V44 :
    (nextOf (step (machine .ready (.dcPending .cmd ⟨.u8, buffer [1#16]⟩) [.fail] []))).map (fun t => (t.seq, t.trace)) =
    some (.idle, [.lineOp .dc .low .fail, .ret (.err .dcError)]) := by decide
theorem test_step_last_init_step : (nextOf (step (machine .uninit (.initStep .m16) [] []))).map (fun t => (t.life, t.trace)) =
    some (.ready, [.cfgOut, .ret .ok]) := by decide
theorem test_step_invalid_header_V69 :
    refusalOf (step (machine .ready .idle [] [.op 0x01#8 (buffer []) true])) = some (.invalidHeader 0x01#8) := by decide
theorem test_step_placed_header : (nextOf (step (State.reset.withFetchWord 8 0x10))).map (·.trace) =
    some [.accept 0x10#8] := by decide
theorem test_step_placed_code : (nextOf (step (State.reset.withFetchWord 4 0xB))).map (·.seq) =
    some (.initStep .m14) := by decide

/-! ## The statements' hypotheses: a state and operands that meet them -/

theorem test_hyp_DecodeOfEncodeIsIdentity :
    (Instr.odrWrite 0x0000FFFF#32).wellFormed = true ∧ (Instr.driveWord 0xFFFF#16).wellFormed = true := by decide
theorem test_hyp_EncodeOfDecodeIsIdentity :
    decode (.micro 0xA#4 0x0000FFFF#32) = .ok (.odrWrite 0x0000FFFF#32) ∧ decode (.header 0x2F#8) = .ok (.sendDataUnsupported 7#3) := by decide
theorem test_hyp_HeaderSpaceIsTotal :
    (∀ h ∈ [0x01#8, 0x0F#8, 0x31#8, 0xFF#8], (0x01 ≤ h.toNat ∧ h.toNat ≤ 0x0F) ∨ 0x31 ≤ h.toNat) ∧
    (∀ h ∈ [0x10#8, 0x2F#8], 0x10 ≤ h.toNat ∧ h.toNat ≤ 0x2F) ∧ ⟨.release, .cs, .low⟩ ∉ lineRows ∧
    (⟨.sendDataUnsupported 7#3, 0x2F#8, .data, .other 7#3⟩ : SendRow) ∈ sendRows 7#3 := by decide
theorem test_hyp_LineOperationOutcome :
    (⟨.rdHigh, .rd, .high⟩ : LineRow) ∈ lineRows ∧ (LineId.dc ≠ LineId.rd) ∧
    (post allHigh [.ok]).lineAnswer 0 = .ok ∧
    ((post allHigh [.fail]).lineAnswer 0 = .fail ∧ (post allHigh [.fail]).params.failLevel = .unchanged) ∧
    ((withPolicy (post allHigh [.fail]) .unknown).lineAnswer 0 = .fail ∧
      (withPolicy (post allHigh [.fail]) .unknown).params.failLevel = .unknown) := by decide
theorem test_hyp_OdrWriteWritesWholeRegister :
    issued .dcFirst (.initStep .m6) = some (.odrWrite 0#32) ∧
    issued .rdFirst (.writing 0 0xFFFF#16 .d3 ⟨.word, buffer []⟩) = some (.odrWrite 0x0000FFFF#32) := by decide
theorem test_hyp_PinsFollowModeAndOdr :
    State.reset.mode = .unknown ∧
    (∃ t, exec .cfgIn State.reset = .next t ∧ t.mode = .known (Vector.replicate busLines .input)) ∧
    (∃ t, exec .cfgOut State.reset = .next t ∧ t.mode = .known (Vector.replicate busLines .output) ∧ t.odr = .unknown) ∧
    (post allHigh []).mode = .known (Vector.replicate busLines .output) ∧ (post allHigh []).odr = .known 0#32 := ⟨rfl, ⟨_, rfl, rfl⟩, ⟨_, rfl, rfl, rfl⟩, rfl, rfl⟩
theorem test_hyp_SendOperationsAreAccepted :
    (post allHigh []).life = .ready ∧ (post allHigh []).seq = .idle ∧
    (⟨.sendCmdU8, 0x10#8, .cmd, .u8⟩ : SendRow) ∈ sendRows 0#3 := by decide
theorem test_hyp_InitIsAccepted :
    State.reset.life = .uninit ∧ State.reset.seq = .idle := by decide
theorem test_hyp_ReleaseEndsTheInstance :
    (post allHigh []).life = .ready ∧ (post allHigh []).seq = .idle := by decide
theorem test_hyp_HostOperationsRefusedElsewhere :
    (machine .ready (.dcSet ⟨.u8, buffer []⟩) [] []).seq ≠ .idle ∧
    ((machine .released .idle [] []).seq = .idle ∧ (machine .released .idle [] []).life ≠ .ready ∧
      (machine .released .idle [] []).life ≠ .uninit) ∧
    (Instr.sendCmdU8, Lifecycle.ready) ∈ (sendRows 0#3).map (fun r => (r.op, Lifecycle.ready)) := by decide
theorem test_hyp_StepRefusesMisuse :
    decodeHeader 0x40#8 = .error (.invalidHeader 0x40#8) ∧
    ((machine .ready .idle [] [.op 0x40#8 (buffer []) true]).inbox.next = some (.op 0x40#8 (buffer []) true, HostPlan.empty) ∧
      (machine .ready .idle [] []).seq = .idle) ∧
    ((machine .ready (.dcSet ⟨.u8, buffer []⟩) [] [.op 0x40#8 (buffer []) false]).inbox.next =
        some (.op 0x40#8 (buffer []) false, HostPlan.empty) ∧
      (machine .ready (.dcSet ⟨.u8, buffer []⟩) [] []).seq ≠ .idle) ∧
    ((machine .uninit (.initStep .m1) [] [.op 0x10#8 (buffer []) false]).inbox.next =
        some (.op 0x10#8 (buffer []) false, HostPlan.empty) ∧
      (machine .uninit (.initStep .m1) [] []).seq ≠ .idle ∧ ∃ i, decodeHeader 0x10#8 = .ok i) ∧
    (machine .uninit (.initStep .m1) [] [.reset false]).inbox.next = some (.reset false, HostPlan.empty) := ⟨rfl, ⟨rfl, rfl⟩, ⟨rfl, by decide⟩, ⟨rfl, by decide, _, rfl⟩, rfl⟩
theorem test_hyp_WritePayloadDispatches :
    (machine .ready (.dcSet ⟨.u8Iter, buffer []⟩) [] []).seq = .dcSet ⟨.u8Iter, buffer []⟩ ∧
    (machine .ready (.dcSet ⟨.u16le, buffer []⟩) [] []).seq = .dcSet ⟨.u16le, buffer []⟩ ∧
    (machine .ready (.dcSet ⟨.other 7#3, buffer []⟩) [] []).seq = .dcSet ⟨.other 7#3, buffer []⟩ := by decide
theorem test_hyp_WriteSequencePullsInOrder :
    (machine .ready (.fetch 3 ⟨.byte, buffer [0xFF#16]⟩) [] []).seq = .fetch 3 ⟨.byte, ⟨0xFF#16 :: [], .ended⟩⟩ ∧
    (machine .ready (.fetch 0 ⟨.word, buffer [0xFFFF#16]⟩) [] []).seq = .fetch 0 ⟨.word, ⟨0xFFFF#16 :: [], .ended⟩⟩ ∧
    (machine .ready (.fetch 0 ⟨.word, ⟨[], .cycle 1#16 []⟩⟩) [] []).seq = .fetch 0 ⟨.word, ⟨[], .cycle 1#16 []⟩⟩ ∧
    (machine .ready (.fetch 0 ⟨.word, ⟨[], .lazy 0 0⟩⟩) [] []).seq = .fetch 0 ⟨.word, ⟨[], .lazy 0 0⟩⟩ ∧
    (machine .ready (.fetch 0 ⟨.byte, buffer []⟩) [] []).seq = .fetch 0 ⟨.byte, ⟨[], .ended⟩⟩ := by decide
theorem test_hyp_InnerOperationsStopOutOfPlace :
    (∀ p, (machine .uninit .idle [] []).seq ≠ .dcSet p) ∧ (∀ i ws, (machine .uninit .idle [] []).seq ≠ .fetch i ws) ∧
    (machine .uninit .idle [] []).life ≠ .ready := ⟨fun _ h => (by cases h), fun _ _ h => (by cases h), by decide⟩
theorem test_hyp_DriveWordWithAllAnswersOk :
    (post allHigh [.ok, .ok, .ok, .ok]).life = .ready ∧ (post allHigh [.ok, .ok, .ok, .ok]).seq = .idle ∧
    ∀ j < 4, (post allHigh [.ok, .ok, .ok, .ok]).ans j = .ok := by decide
theorem test_hyp_DriveWordForEveryAnswer :
    (post allHigh []).life = .ready ∧ (post allHigh []).seq = .idle ∧
    (post allHigh [.ok, .fail]).ans 1 = .fail ∧
    ((post allHigh [.fail, .ok, .fail]).ans 1 = .ok ∧ (post allHigh [.fail, .ok, .fail]).ans 2 = .fail) ∧
    ((post allHigh [.ok, .ok, .ok]).ans 1 = .ok ∧ (post allHigh [.ok, .ok, .ok]).ans 2 = .ok) := by decide
theorem test_hyp_DriveWordEventsInOrder :
    ((post allHigh [.fail]).life = .ready ∧ (post allHigh [.fail]).seq = .idle) ∧
    (∀ a ∈ [[Answer.ok, .ok, .ok], [.ok, .fail], [.ok, .ok, .fail]],
      (machine .ready (.writing 2 7#16 .d1 ⟨.word, buffer []⟩) a []).hostWaits = true ∧
      (machine .ready (.writing 2 7#16 .d1 ⟨.word, buffer []⟩) a []).seq = .writing 2 7#16 .d1 ⟨.word, buffer []⟩) ∧
    (machine .ready (.writing 2 7#16 .d1 ⟨.word, buffer []⟩) [.ok, .fail] []).ans 1 = .fail ∧
    (machine .ready (.writing 2 7#16 .d1 ⟨.word, buffer []⟩) [.ok, .ok, .fail] []).ans 2 = .fail ∧
    (machine .ready (.writing 2 7#16 .d1 ⟨.word, buffer []⟩) [.ok, .ok, .ok] []).ans 1 = .ok ∧
    (machine .ready (.writing 2 7#16 .d1 ⟨.word, buffer []⟩) [.ok, .ok, .ok] []).ans 2 = .ok := by decide
theorem test_hyp_DriveWordIsItsMicroSteps :
    (machine .ready (.writing 2 7#16 .d1 ⟨.word, buffer []⟩) [] []).life = .ready ∧
    (machine .ready (.writing 2 7#16 .d1 ⟨.word, buffer []⟩) [] []).hostWaits = true ∧
    (machine .ready (.writing 2 7#16 .d1 ⟨.word, buffer []⟩) [] []).seq = .writing 2 7#16 .d1 ⟨.word, buffer []⟩ := by decide
theorem test_hyp_StepRunsTheFetchedInstruction :
    (hostDue (machine .uninit (.initStep .m4) [.ok] []) = none ∧ issued .dcFirst (.initStep .m4) = some .csLow) ∧
    (hostDue (machine .ready (.fetch 0 ⟨.word, buffer []⟩) [] []) = none ∧
      issued .dcFirst (.fetch 0 ⟨.word, buffer []⟩) = some .writeSequence) ∧
    (machine .ready .idle [] [.op 0x30#8 (buffer []) false]).seq = .idle ∧
    (machine .ready .idle [] [.op 0x30#8 (buffer []) false]).inbox.next = some (.op 0x30#8 (buffer []) false, HostPlan.empty) ∧
    decodeHeader 0x30#8 = .ok .release := ⟨⟨rfl, rfl⟩, ⟨rfl, rfl⟩, rfl, rfl, rfl⟩

/-- A machine inside word 0 of a payload, about to run one step of it. -/
def inWord (k : WordStep) (a : Answer) : State := machine .ready (.writing 0 7#16 k ⟨.word, buffer []⟩) [a] []

theorem test_hyp_SendTransitionTable :
    (machine .ready .idle [] []).hostWaits = true ∧
    (∀ a ∈ [Answer.ok, .fail], (machine .ready (.dcPending .cmd ⟨.u8, buffer []⟩) [a] []).seq = .dcPending .cmd ⟨.u8, buffer []⟩ ∧
      (machine .ready (.dcPending .cmd ⟨.u8, buffer []⟩) [a] []).ans 0 = a) ∧
    (machine .ready (.dcSet ⟨.u8, buffer []⟩) [] []).seq = .dcSet ⟨.u8, buffer []⟩ ∧ widthOf .u8 = some .byte ∧
    widthOf (.other 0#3) = none ∧
    (machine .ready (.fetch 0 ⟨.word, buffer [9#16]⟩) [] []).seq = .fetch 0 ⟨.word, buffer [9#16]⟩ ∧
    (⟨.word, buffer [9#16]⟩ : WordSeq).next = some (.word 9#16, ⟨.word, buffer []⟩) ∧ (⟨.word, buffer []⟩ : WordSeq).next = none ∧
    (∀ k ∈ [WordStep.d1, .d2, .d3, .d4, .d5], ∀ a ∈ [Answer.ok, .fail],
      (inWord k a).hostWaits = true ∧ (inWord k a).seq = .writing 0 7#16 k ⟨.word, buffer []⟩ ∧ (inWord k a).ans 0 = a) := by decide
theorem test_hyp_InitMicroStepsDiscardAnswers :
    ∀ k ∈ [InitStep.m1, .m15, .m16], (machine .uninit (.initStep k) [] []).hostWaits = true ∧
    (machine .uninit (.initStep k) [] []).seq = .initStep k := by decide
theorem test_hyp_OperationsNeverStall :
    State.reset.hostWaits = true ∧ State.reset.seq = .idle ∧ State.reset.inbox.next = none ∧
    (machine .uninit (.initStep .m1) [] []).hostWaits = true ∧ (machine .uninit (.initStep .m1) [] []).seq ≠ .idle := by decide
theorem test_hyp_ResetEventRestoresEveryItem :
    (machine .released .idle [] [.reset true]).seq = .idle ∧
    (machine .released .idle [] [.reset true]).inbox.next = some (.reset true, HostPlan.empty) := by decide
theorem test_hyp_DcFailureEndsTheSend :
    (machine .ready (.dcPending .data ⟨.other 7#3, buffer []⟩) [.fail] []).hostWaits = true ∧
    (machine .ready (.dcPending .data ⟨.other 7#3, buffer []⟩) [.fail] []).nextAnswer = .fail ∧
    (machine .ready (.dcPending .data ⟨.other 7#3, buffer []⟩) [.fail] []).seq = .dcPending .data ⟨.other 7#3, buffer []⟩ ∧
    (machine .uninit (.initStep .m2) [.fail] []).nextAnswer = .fail ∧ initOp .dcFirst .m2 = .dcLow ∧ initOp .dcFirst .m11 = .dcHigh := by decide
theorem test_hyp_UnsupportedFormatAfterDc :
    ∀ f ∈ [Fmt.u8, .other 0#3], (machine .ready (.dcPending .cmd ⟨f, buffer []⟩) [.ok] []).hostWaits = true ∧
    (machine .ready (.dcPending .cmd ⟨f, buffer []⟩) [.ok] []).nextAnswer = .ok ∧
    (machine .ready (.dcPending .cmd ⟨f, buffer []⟩) [.ok] []).seq = .dcPending .cmd ⟨f, buffer []⟩ := by decide
theorem test_hyp_CsFailuresSwallowedWrAndDcPropagate :
    (∀ k ∈ [WordStep.d1, .d2, .d4, .d5], (inWord k .fail).hostWaits = true ∧ (inWord k .fail).nextAnswer = .fail ∧
      (inWord k .fail).seq = .writing 0 7#16 k ⟨.word, buffer []⟩) ∧
    (machine .ready (.dcPending .cmd ⟨.u8, buffer []⟩) [.fail] []).hostWaits = true ∧
    (machine .ready (.dcPending .cmd ⟨.u8, buffer []⟩) [.fail] []).nextAnswer = .fail := by decide
theorem test_hyp_WrFailureRaisesAndUndoesNothing :
    (∀ k ∈ [WordStep.d2, .d4], (inWord k .fail).hostWaits = true ∧ (inWord k .fail).nextAnswer = .fail ∧
      (inWord k .fail).seq = .writing 0 7#16 k ⟨.word, buffer []⟩) ∧
    (machine .uninit (.initStep .m5) [.fail] []).hostWaits = true ∧ (machine .uninit (.initStep .m5) [.fail] []).nextAnswer = .fail ∧
    initOp .dcFirst .m5 = .wrLow ∧ initOp .dcFirst .m7 = .wrHigh := by decide
theorem test_hyp_RaiseLeavesLinesAsTheyAre :
    (inWord .d4 .fail).hostWaits = true ∧ (inWord .d4 .fail).seq ≠ .idle ∧ (inWord .d4 .fail).params.failLevel = .unchanged ∧
    (withPolicy (inWord .d4 .fail) .unknown).params.failLevel = .unknown ∧
    (∃ t, step (inWord .d4 .fail) = .next t ∧
      t.trace = (inWord .d4 .fail).trace ++ [.lineOp .wr .high .fail] ++ [.ret (.err .busWriteError)]) ∧
    (∃ t, step (machine .ready (.dcSet ⟨.other 0#3, buffer []⟩) [] []) = .next t ∧
      t.trace = (machine .ready (.dcSet ⟨.other 0#3, buffer []⟩) [] []).trace ++ [] ++ [.ret (.err .unsupportedFormat)]) := ⟨rfl, by decide, rfl, rfl, ⟨_, rfl, rfl⟩, _, rfl, rfl⟩
theorem test_hyp_ErrorsLeaveTheInstanceUsable :
    SeqLifeAgree (inWord .d2 .fail) ∧ (inWord .d2 .fail).hostWaits = true ∧ (inWord .d2 .fail).seq ≠ .idle ∧
    (∃ t, step (inWord .d2 .fail) = .next t ∧
      t.trace = (inWord .d2 .fail).trace ++ [.lineOp .wr .low .fail] ++ [.ret (.err .busWriteError)]) := 
  ⟨⟨fun _ h => (by cases h), fun _ _ h => (by cases h), fun _ h => (by cases h), fun _ _ h => (by cases h), fun _ _ _ _ _ => rfl⟩,
    rfl, by decide, _, rfl, rfl⟩

/-- A machine after reset whose host issues INIT and then waits to send. -/
def startInit (answers : List Answer) : State :=
  machine .uninit .idle answers [.op 0x00#8 (buffer []) true, .op 0x10#8 (buffer [1#16]) true]

/-- A machine in Ready and Idle whose host issues SEND_DATA U16 with this payload. -/
def startSend (d : ElemStream) (answers : List Answer) : State := machine .ready .idle answers [.op 0x21#8 d true]

theorem test_hyp_InitRunsAllSixteenMicroSteps :
    (startInit []).life = .uninit ∧ (startInit []).seq = .idle ∧
    (startInit []).inbox.next = some (.op 0x00#8 (buffer []) true, ⟨[.op 0x10#8 (buffer [1#16]) true], .ended⟩) ∧
    HostPlan.waits ⟨[.op 0x10#8 (buffer [1#16]) true], .ended⟩ = true ∧
    (startInit []).params.initOrder = .dcFirst := by decide
theorem test_hyp_InitWithAllAnswersOkLeavesLinesHigh :
    (startInit (List.replicate 11 .ok)).life = .uninit ∧ (startInit (List.replicate 11 .ok)).seq = .idle ∧
    (startInit (List.replicate 11 .ok)).inbox.next = some (.op 0x00#8 (buffer []) true, ⟨[.op 0x10#8 (buffer [1#16]) true], .ended⟩) ∧
    HostPlan.waits ⟨[.op 0x10#8 (buffer [1#16]) true], .ended⟩ = true ∧
    AnswersOk (startInit (List.replicate 11 .ok)) 11 := ⟨by decide, by decide, by decide, by decide, by unfold AnswersOk; decide⟩
theorem test_hyp_InitShape :
    (startInit []).life = .uninit ∧ (startInit []).seq = .idle ∧
    (startInit []).inbox.next = some (.op 0x00#8 (buffer []) true, ⟨[.op 0x10#8 (buffer [1#16]) true], .ended⟩) ∧
    HostPlan.waits ⟨[.op 0x10#8 (buffer [1#16]) true], .ended⟩ = true := by decide
theorem test_hyp_SendWritesEveryElement :
    (startSend (buffer [1#16, 2#16]) (List.replicate 9 .ok)).life = .ready ∧ (startSend (buffer [1#16, 2#16]) (List.replicate 9 .ok)).seq = .idle ∧
    (startSend (buffer [1#16, 2#16]) (List.replicate 9 .ok)).inbox.next = some (.op 0x21#8 (buffer [1#16, 2#16]) true, HostPlan.empty) ∧
    HostPlan.empty.waits = true ∧ widthOf .u16 = some .word ∧
    (⟨.sendDataU16, 0x21#8, .data, .u16⟩ : SendRow) ∈ sendRows 0#3 ∧
    (startSend (buffer [1#16, 2#16]) (List.replicate 9 .ok)).ans 0 = .ok ∧
    (∀ j < 2, (startSend (buffer [1#16, 2#16]) (List.replicate 9 .ok)).ans (4 * j + 2) = .ok ∧ (startSend (buffer [1#16, 2#16]) (List.replicate 9 .ok)).ans (4 * j + 3) = .ok) ∧
    Delivers (buffer [1#16, 2#16]) [1#16, 2#16] (buffer []) ∧ (buffer []).next = none := ⟨by decide, by decide, by decide, by decide, by decide, by decide, by decide, by decide, delivers_items [1#16, 2#16] [] .ended, rfl⟩
theorem test_hyp_WrFailureStopsThePayload :
    (startSend ⟨[1#16], .cycle 2#16 []⟩ [.ok, .ok, .ok, .ok, .ok, .ok, .fail]).life = .ready ∧ (startSend ⟨[1#16], .cycle 2#16 []⟩ [.ok, .ok, .ok, .ok, .ok, .ok, .fail]).seq = .idle ∧
    (startSend ⟨[1#16], .cycle 2#16 []⟩ [.ok, .ok, .ok, .ok, .ok, .ok, .fail]).inbox.next = some (.op 0x21#8 ⟨[1#16], .cycle 2#16 []⟩ true, HostPlan.empty) ∧
    HostPlan.empty.waits = true ∧ widthOf .u16 = some .word ∧
    (⟨.sendDataU16, 0x21#8, .data, .u16⟩ : SendRow) ∈ sendRows 0#3 ∧
    (∀ a ∈ [[.ok, .ok, .ok, .ok, .ok, .ok, .fail], [.ok, .ok, .ok, .ok, .ok, .ok, .ok, .fail]], (startSend ⟨[1#16], .cycle 2#16 []⟩ a).ans 0 = .ok ∧ (startSend ⟨[1#16], .cycle 2#16 []⟩ a).ans 2 = .ok ∧ (startSend ⟨[1#16], .cycle 2#16 []⟩ a).ans 3 = .ok) ∧
    (startSend ⟨[1#16], .cycle 2#16 []⟩ [.ok, .ok, .ok, .ok, .ok, .ok, .fail]).ans 6 = .fail ∧
    ((startSend ⟨[1#16], .cycle 2#16 []⟩ [.ok, .ok, .ok, .ok, .ok, .ok, .ok, .fail]).ans 6 = .ok ∧ (startSend ⟨[1#16], .cycle 2#16 []⟩ [.ok, .ok, .ok, .ok, .ok, .ok, .ok, .fail]).ans 7 = .fail) ∧
    Delivers ⟨[1#16], .cycle 2#16 []⟩ [1#16] ⟨[], .cycle 2#16 []⟩ ∧ ElemStream.next ⟨[], .cycle 2#16 []⟩ = some (2#16, ⟨[], .cycle 2#16 []⟩) := ⟨by decide, by decide, by decide, by decide, by decide, by decide, by decide, by decide, by decide, delivers_items [1#16] [] (.cycle 2#16 []), rfl⟩
theorem test_hyp_EverySendHasOneDcEvent :
    (startSend (buffer [1#16]) []).life = .ready ∧ (startSend (buffer [1#16]) []).seq = .idle ∧
    (startSend (buffer [1#16]) []).inbox.next = some (.op 0x21#8 (buffer [1#16]) true, HostPlan.empty) ∧
    HostPlan.empty.waits = true ∧ widthOf .u16 = some .word ∧
    (⟨.sendDataU16, 0x21#8, .data, .u16⟩ : SendRow) ∈ sendRows 0#3 ∧
    Delivers (buffer [1#16]) [1#16] (buffer []) ∧ (buffer []).next = none := ⟨by decide, by decide, by decide, by decide, by decide, by decide, delivers_items [1#16] [] .ended, rfl⟩
theorem test_hyp_InfinitePayloadNeverReturns :
    (startSend ⟨[], .cycle 0#16 []⟩ (List.replicate 9 .ok)).life = .ready ∧ (startSend ⟨[], .cycle 0#16 []⟩ (List.replicate 9 .ok)).seq = .idle ∧
    (startSend ⟨[], .cycle 0#16 []⟩ (List.replicate 9 .ok)).inbox.next = some (.op 0x21#8 ⟨[], .cycle 0#16 []⟩ true, HostPlan.empty) ∧
    HostPlan.empty.waits = true ∧ widthOf .u16 = some .word ∧
    (⟨.sendDataU16, 0x21#8, .data, .u16⟩ : SendRow) ∈ sendRows 0#3 ∧
    (startSend ⟨[], .cycle 0#16 []⟩ (List.replicate 9 .ok)).ans 0 = .ok ∧
    (∀ j < 2, (startSend ⟨[], .cycle 0#16 []⟩ (List.replicate 9 .ok)).ans (4 * j + 2) = .ok ∧
      (startSend ⟨[], .cycle 0#16 []⟩ (List.replicate 9 .ok)).ans (4 * j + 3) = .ok) ∧
    Endless Config.lazyElem (.cycle 0#16 []) := ⟨by decide, by decide, by decide, by decide, by decide, by decide, by decide, by decide, trivial⟩

/-- A step from the reset state, with INIT's header placed, meets the premises of every invariant. -/
def firstStep : State := State.reset.withInbox ⟨[.op 0x00#8 (buffer []) true], .ended⟩

theorem test_hyp_StepKeepsSeqLifeAgree :
    SeqLifeAgree firstStep ∧ ∃ t, step firstStep = .next t := 
  ⟨⟨fun _ h => (by cases h), fun _ _ h => (by cases h), fun _ h => (by cases h), fun _ _ h => (by cases h), fun _ _ _ _ h => (by cases h)⟩,
    _, rfl⟩
theorem test_hyp_StepKeepsOdrUpperZero :
    OdrUpperZero firstStep ∧ ∃ t, step firstStep = .next t := ⟨fun _ h => (by cases h), _, rfl⟩
theorem test_hyp_StepKeepsPortUniform :
    PortUniform firstStep ∧ ∃ t, step firstStep = .next t := ⟨⟨.inl rfl, .inl rfl, .inl rfl⟩, _, rfl⟩
theorem test_hyp_StepKeepsTraceTellsAll :
    TraceTellsAll firstStep ∧ ∃ t, step firstStep = .next t := ⟨rfl, _, rfl⟩
theorem test_hyp_ChipSelectErrorNeverReturned :
    NoChipSelectResult firstStep ∧ ∃ t, step firstStep = .next t := ⟨by unfold NoChipSelectResult; decide, _, rfl⟩

/-- A machine in INIT with the probe window open: RD low, the bus input, about to close the window. -/
def probing : State :=
  { machine .uninit (.initStep .m14) [.ok] [] with
    lines := allHigh.set .rd (.known .low), mode := .known (Vector.replicate busLines .input) }

theorem test_hyp_ProbeWindowIsKept :
    ProbeWindowSafe probing ∧ probing.seq = .initStep .m14 ∧ probing.nextAnswer = .ok ∧ ∃ t, step probing = .next t := ⟨⟨fun _ _ _ => rfl, fun _ => .inr rfl⟩, rfl, rfl, _, rfl⟩
theorem test_hyp_TraceIsAppendOnly :
    (∃ t, step firstStep = .next t) ∧ ∀ w, hostDue firstStep ≠ some (.reset w) := ⟨⟨_, rfl⟩, fun _ h => (by cases h)⟩
theorem test_hyp_LifeChangesOnlyAsTabulated :
    (SeqLifeAgree (machine .uninit (.initStep .m16) [] []) ∧
      ∃ t, step (machine .uninit (.initStep .m16) [] []) = .next t ∧ t.life ≠ .uninit) ∧
    (SeqLifeAgree (machine .released .idle [] [.reset true]) ∧ (machine .released .idle [] [.reset true]).life = .released ∧
      ∃ t, step (machine .released .idle [] [.reset true]) = .next t ∧ t.life ≠ .released) := 
  ⟨⟨⟨fun _ _ => rfl, fun _ _ h => (by cases h), fun _ h => (by cases h), fun _ _ h => (by cases h), fun _ _ _ _ h => (by cases h)⟩,
      _, rfl, by decide⟩,
    ⟨fun _ h => (by cases h), fun _ _ h => (by cases h), fun _ h => (by cases h), fun _ _ h => (by cases h), fun _ _ _ _ h => (by cases h)⟩,
    rfl, _, rfl, by decide⟩
theorem test_hyp_RdOnlyInInitDcOncePerPayload :
    (∃ t, step (inWord .d4 .ok) = .next t) ∧ (∀ w, hostDue (inWord .d4 .ok) ≠ some (.reset w)) ∧
    (∀ k, (inWord .d4 .ok).seq ≠ .initStep k) ∧ (∀ kind p, (inWord .d4 .ok).seq ≠ .dcPending kind p) := ⟨⟨_, rfl⟩, fun _ h => (by cases h), fun _ h => (by cases h), fun _ _ h => (by cases h)⟩
theorem test_hyp_OdrChangesOnlyInItsStep :
    (∃ t, step (inWord .d4 .ok) = .next t) ∧ (∀ w, hostDue (inWord .d4 .ok) ≠ some (.reset w)) ∧
    (∀ k, (inWord .d4 .ok).seq ≠ .initStep k) ∧ (∀ i w ws, (inWord .d4 .ok).seq ≠ .writing i w .d3 ws) := ⟨⟨_, rfl⟩, fun _ h => (by cases h), fun _ h => (by cases h), fun _ _ _ h => (by cases h)⟩
theorem test_hyp_LevelsAndPolicyNeverDecide :
    SameControl (post allHigh [.fail]) (withPolicy (machine .ready .idle [.fail] []) .unknown) := by unfold SameControl; decide

/-- A state whose trace is `T` and whose lines and registers are its replay. -/
def replayed (policy : FailLevelPolicy) (T : List Event) (answers : List Answer) : State :=
  { withPolicy (machine .ready .idle answers []) policy with
    trace := T
    lines := (replay policy T).lines
    mode := (replay policy T).mode
    pull := (replay policy T).pull
    speed := (replay policy T).speed
    odr := (replay policy T).odr
    idSample := (replay policy T).idSample }

theorem test_hyp_WrHighLatches :
    TraceTellsAll (replayed .unchanged [.lineOp .wr .high .ok] [.ok]) ∧
    (replayed .unchanged [.lineOp .wr .high .ok] [.ok]).lines.wr = .known .high ∧
    (replayed .unchanged [.lineOp .wr .low .ok] [.ok]).lines.wr = .known .low ∧
    (replayed .unchanged [] [.ok]).lines.wr = .unknown ∧ (replayed .unchanged [] [.ok]).nextAnswer = .ok ∧
    (replayed .unchanged [] [.fail]).nextAnswer = .fail ∧ (replayed .unknown [] [.fail]).params.failLevel = .unknown ∧
    (replayed .unknown [] [.fail]).lines.wr ≠ .known .high := ⟨rfl, by decide, by decide, by decide, by decide, by decide, by decide, by decide⟩
theorem test_hyp_FailureFreeSendLatchesItsWords :
    (startSend (buffer [1#16, 2#16]) (List.replicate 9 .ok)).life = .ready ∧ (startSend (buffer [1#16, 2#16]) (List.replicate 9 .ok)).seq = .idle ∧
    (startSend (buffer [1#16, 2#16]) (List.replicate 9 .ok)).inbox.next = some (.op 0x21#8 (buffer [1#16, 2#16]) true, HostPlan.empty) ∧
    HostPlan.empty.waits = true ∧ widthOf .u16 = some .word ∧
    (⟨.sendDataU16, 0x21#8, .data, .u16⟩ : SendRow) ∈ sendRows 0#3 ∧
    TraceTellsAll (startSend (buffer [1#16, 2#16]) (List.replicate 9 .ok)) ∧ AnswersOk (startSend (buffer [1#16, 2#16]) (List.replicate 9 .ok)) 9 ∧
    Delivers (buffer [1#16, 2#16]) [1#16, 2#16] (buffer []) ∧ (buffer []).next = none := ⟨by decide, by decide, by decide, by decide, by decide, by decide, rfl, by unfold AnswersOk; decide, delivers_items [1#16, 2#16] [] .ended, rfl⟩
theorem test_hyp_InfiniteHostListGoesOn :
    ((machine .ready .idle [] []).withInbox ⟨[], .cycle (.op 0x21#8 (buffer [1#16]) true) []⟩).inbox =
      ⟨[], .cycle (.op 0x21#8 (buffer [1#16]) true) []⟩ ∧
    ((machine .ready .idle [] []).withInbox ⟨[], .cycle (.op 0x21#8 (buffer [1#16]) true) []⟩).life = .ready ∧
    ((machine .ready .idle [] []).withInbox ⟨[], .cycle (.op 0x21#8 (buffer [1#16]) true) []⟩).seq = .idle ∧
    Delivers (buffer [1#16]) [1#16] (buffer []) ∧ (buffer []).next = none := ⟨rfl, rfl, rfl, delivers_items [1#16] [] .ended, rfl⟩

/-! ## The host's list as an infinite sequence (R190) -/

theorem test_step_takes_from_a_cycle :
    (nextOf (step ((machine .ready .idle [] []).withInbox ⟨[], .cycle (.op 0x30#8 (buffer []) true) [.reset true]⟩))).map
      (fun t => (t.life, t.inbox)) =
    some (.released, ⟨[.reset true], .cycle (.op 0x30#8 (buffer []) true) [.reset true]⟩) := by decide


end Sys2Proof.Tests
end

section
/-! PROOFS. The scope of BW16 (00_scope.md): a step is the fetched operation run (R7, R34, R61), an operation in progress
always has a next step (R10, R190), and the trace tells all (R11). -/

namespace Sys2Proof.Machine

/-! ## The operations the sequencer issues -/

/-- What a pin-side micro-operation makes of `s`: a line operation (R90) or a port access (R99 to R102). -/
inductive PinAction (s : State) : State → Prop
  | line (l : LineId) (lvl : Level) : PinAction s (lineOp l lvl s)
  | configureOut : PinAction s (configureOut s)
  | configureIn : PinAction s (configureIn s)
  | writeOdr (v : Word32) : PinAction s (writeOdr v s)
  | readIdr : PinAction s (readIdr s)

theorem exec_initOp_pinAction (order : InitOrder) (k : InitStep) (s : State) :
    ∃ u, exec (initOp order k) s = .next u ∧ PinAction s u := by
  cases k with
  | m1 | m16 => exact ⟨_, rfl, .configureOut⟩
  | m2 | m3 => cases order <;> exact ⟨_, rfl, .line _ _⟩
  | m6 => exact ⟨_, rfl, .writeOdr _⟩
  | m9 => exact ⟨_, rfl, .configureIn⟩
  | m13 => exact ⟨_, rfl, .readIdr⟩
  | m4 | m5 | m7 | m8 | m10 | m11 | m12 | m14 | m15 => exact ⟨_, rfl, .line _ _⟩

theorem exec_wordOp_pinAction (w : Word16) (k : WordStep) (s : State) :
    ∃ u, exec (wordOp w k) s = .next u ∧ PinAction s u := by
  cases k with
  | d3 => exact ⟨_, rfl, .writeOdr _⟩
  | d1 | d2 | d4 | d5 => exact ⟨_, rfl, .line _ _⟩

/-- In `DcSet(p)` the dispatch has its effect, whatever the tag (R132). -/
theorem execWritePayload_next {s : State} {p : Payload} (hq : s.seq = .dcSet p) :
    ∃ u, execWritePayload s = .next u := by
  cases hf : widthOf p.fmt <;> simp [execWritePayload, hq, hf]

/-- In `Fetch(i, ws)` the turn of the loop has its effect, whatever the payload answers (R133). -/
theorem execWriteSequence_next {s : State} {i : Nat} {ws : WordSeq} (hq : s.seq = .fetch i ws) :
    ∃ u, execWriteSequence s = .next u := by
  cases hn : ws.next <;> simp [execWriteSequence, hq, hn]

/-- The operation the sequencer issues always has its effect (R10). -/
theorem exec_issued_next {s : State} {i : Instr} (hi : issued s.params.initOrder s.seq = some i) :
    ∃ u, exec i s = .next u := by
  cases hq : s.seq with
  | idle => rw [hq] at hi; cases hi
  | initStep k =>
    rw [hq] at hi
    cases hi
    obtain ⟨u, hu, -⟩ := exec_initOp_pinAction s.params.initOrder k s
    exact ⟨u, hu⟩
  | dcPending kind p => rw [hq] at hi; cases kind <;> cases hi <;> exact ⟨_, rfl⟩
  | dcSet p => rw [hq] at hi; cases hi; exact execWritePayload_next hq
  | fetch n ws => rw [hq] at hi; cases hi; exact execWriteSequence_next hq
  | writing n w k ws =>
    rw [hq] at hi
    cases hi
    obtain ⟨u, hu, -⟩ := exec_wordOp_pinAction w k s
    exact ⟨u, hu⟩

/-- Outside Idle the sequencer always issues an operation (R34, R134). -/
theorem issued_of_busy (order : InitOrder) {q : SeqState} (hb : q ≠ .idle) : ∃ i, issued order q = some i := by
  cases q with
  | idle => exact absurd rfl hb
  | dcPending kind p => cases kind <;> exact ⟨_, rfl⟩
  | initStep k | dcSet p | fetch n ws | writing n w k ws => exact ⟨_, rfl⟩

/-! ## The fetch and the step -/

/-- In Idle the fetch of a valid request: its operation, with its payload at the interface and the plan moved on (R61). -/
theorem fetchNext_of_request {s : State} {h : Byte} {data : ElemStream} {w : Bool} {rest : HostPlan} {i : Instr}
    (hq : s.seq = .idle) (hx : s.inbox.next = some (.op h data w, rest)) (hh : decodeHeader h = .ok i) :
    fetchNext s = .run i { s with inbox := rest, offer := data } := by
  simp [fetchNext, hostDue_of_idle hq hx, hh, HostPlan.rest_of_next hx, State.withInbox, State.withOffer]

/-- A step whose fetch found Idle adds no transition of SEQ to the operation it runs. -/
theorem step_of_run_idle {s u : State} {i : Instr} (hf : fetchNext s = .run i u) (hq : u.seq = .idle) :
    step s = exec i u := by
  cases hx : exec i u <;> simp [step, hf, hx, hq, advance]

/-- Idle with nothing asked: the state stays as it is (R168). -/
theorem step_of_idle_of_no_event {s : State} (hq : s.seq = .idle) (hx : s.inbox.next = none) : step s = .next s := by
  simp [step, fetchNext, hostDue, hx, hq, issued]

theorem runSteps_of_step_self {s : State} (h : step s = .next s) (k : Nat) : runSteps k s = .next s := by
  induction k with
  | zero => rfl
  | succ k ih => rw [runSteps_succ h, ih]

/-! ## Progress of SEQ -/

theorem InitStep.next_ne (k : InitStep) : k.next ≠ some k := by
  cases k <;> decide

theorem afterInitStep_seq_ne (k : InitStep) (u : State) : (afterInitStep k u).seq ≠ .initStep k := by
  unfold afterInitStep
  cases hk : k.next with
  | none => simp
  | some k' =>
    intro h
    cases h
    exact k.next_ne hk

/-- A raise brings SEQ to Idle, and without one it is moved to `q`: neither leaves it in `old`. -/
theorem raiseOr_withSeq_seq_ne {old q : SeqState} (hb : old ≠ .idle) (hq : q ≠ old) (e : Option Err) (s : State) :
    (raiseOr e (fun t => t.withSeq q) s).seq ≠ old := by
  cases e with
  | none => exact hq
  | some e => exact hb.symm

/-- A step of a running operation moves SEQ. -/
theorem StepTo.seq_ne {s t : State} (h : StepTo s t) (hb : s.seq ≠ .idle) : t.seq ≠ s.seq := by
  cases h with
  | rest hi | reset _ hi | acceptInit _ _ hi | acceptRelease _ _ hi | acceptSend _ _ _ _ _ hi => exact absurd hi hb
  | initStep k u hq => rw [hq]; exact afterInitStep_seq_ne k u
  | dc _ _ hq | word2 _ _ _ hq | word4 _ _ _ hq =>
    rw [hq] at hb ⊢
    exact raiseOr_withSeq_seq_ne hb (by simp) _ _
  | dispatch _ _ hq | unsupported _ hq | pull _ _ _ _ hq | pullEnd _ _ hq | word1 _ _ _ hq | word3 _ _ _ hq
  | word5 _ _ _ hq => simp [hq]

/-! ## The replay of the trace -/

section Replay

variable {s : State}

/-- What appends events and is their replay keeps the invariant: the one rule the cases of a step turn on (R11, R38). -/
theorem TraceTellsAll.append (h : TraceTellsAll s) {t : State} (T : List Event) (hp : t.params = s.params)
    (ht : t.trace = s.trace ++ T) (hv : t.view = T.foldl (View.apply s.params.failLevel) s.view) : TraceTellsAll t := by
  unfold TraceTellsAll replay at h ⊢
  rw [hv, h, hp, ht, List.foldl_append]

theorem TraceTellsAll.withSeq (h : TraceTellsAll s) (q : SeqState) : TraceTellsAll (s.withSeq q) := h

theorem TraceTellsAll.withLife (h : TraceTellsAll s) (v : Lifecycle) : TraceTellsAll (s.withLife v) := h

theorem TraceTellsAll.finish (h : TraceTellsAll s) (r : Result) : TraceTellsAll (finish r s) :=
  h.append [.ret r] rfl rfl rfl

theorem TraceTellsAll.raiseOr_withSeq (h : TraceTellsAll s) (e : Option Err) (q : SeqState) :
    TraceTellsAll (raiseOr e (fun t => t.withSeq q) s) := by
  cases e with
  | none => exact h.withSeq q
  | some e => exact h.finish (.err e)

theorem TraceTellsAll.afterInitStep (h : TraceTellsAll s) (k : InitStep) : TraceTellsAll (afterInitStep k s) := by
  unfold Machine.afterInitStep
  cases k.next with
  | none => exact (h.withLife .ready).finish .ok
  | some k' => exact h.withSeq _

/-- A pin-side micro-operation appends the event whose replay it is (R90, R99 to R102). -/
theorem TraceTellsAll.pinAction (h : TraceTellsAll s) {u : State} (hu : PinAction s u) : TraceTellsAll u := by
  cases hu with
  | line l lvl => exact h.append [.lineOp l lvl s.nextAnswer] rfl rfl rfl
  | configureOut => exact h.append [.cfgOut] rfl rfl rfl
  | configureIn => exact h.append [.cfgIn] rfl rfl rfl
  | writeOdr v => exact h.append [.odrWrite v] rfl rfl rfl
  | readIdr => exact h.append [.idrRead s.nextIdr] rfl rfl rfl

theorem TraceTellsAll.lineOp (h : TraceTellsAll s) (l : LineId) (lvl : Level) : TraceTellsAll (lineOp l lvl s) :=
  h.pinAction (.line l lvl)

theorem TraceTellsAll.resetEvent (s : State) : TraceTellsAll (resetEvent s) := rfl

theorem TraceTellsAll.stepTo (h : TraceTellsAll s) {t : State} (hst : StepTo s t) : TraceTellsAll t := by
  cases hst with
  | rest => exact h
  | reset => exact .resetEvent s
  | acceptInit => exact h.append [.accept 0x00#8] rfl rfl rfl
  | acceptRelease => exact h.append [.accept 0x30#8, .ret .ok] rfl (by simp) rfl
  | acceptSend _ _ _ kind f => exact h.append [.accept (sendHeader kind f)] rfl rfl rfl
  | initStep k u _ hu =>
    obtain ⟨u', hu', hpin⟩ := exec_initOp_pinAction s.params.initOrder k s
    cases hu.symm.trans hu'
    exact (h.pinAction hpin).afterInitStep k
  | dc | word2 | word4 => exact (h.lineOp _ _).raiseOr_withSeq _ _
  | dispatch => exact h.withSeq _
  | unsupported => exact h.finish _
  | pull i _ _ e => exact h.append [.pull i (.elem e)] rfl rfl rfl
  | pullEnd i => exact h.append [.pull i .ended, .ret .ok] rfl (by simp) rfl
  | word1 | word5 => exact (h.lineOp _ _).withSeq _
  | word3 i w => exact (h.pinAction (.writeOdr (zext32 w))).withSeq _

end Replay

/-! ## The statements of 00_scope.md -/

/-- Settles O46: every case of a step appends the events whose replay it is. -/
theorem stepKeepsTraceTellsAll : Obligations.StepKeepsTraceTellsAll :=
  fun _ _ h hst => h.stepTo (step_inversion hst)

/-- Settles O27: outside Idle an operation is issued and has its effect, and the step it makes moves SEQ; in Idle with
nothing asked a step is the identity. -/
theorem operationsNeverStall : Obligations.OperationsNeverStall := by
  intro s hw
  refine ⟨fun hb => ?_, fun hq hx => runSteps_of_step_self (step_of_idle_of_no_event hq hx)⟩
  obtain ⟨i, hi⟩ := issued_of_busy s.params.initOrder hb
  obtain ⟨u, hu⟩ := exec_issued_next hi
  have hst := step_of_issued hw hi hu
  exact ⟨_, hst, (step_inversion hst).seq_ne hb⟩

/-- Settles O24: the issued operation has its effect and SEQ moves on; a request is run from the state the fetch gives. -/
theorem stepRunsTheFetchedInstruction : Obligations.StepRunsTheFetchedInstruction := by
  refine ⟨fun s i hd hi => ?_, fun s h data w rest i hq hx hh => ?_⟩
  · obtain ⟨u, hu⟩ := exec_issued_next hi
    exact ⟨u, hu, by simp [step, fetchNext_of_issued hd hi, hu]⟩
  · exact step_of_run_idle (fetchNext_of_request hq hx hh) hq

end Sys2Proof.Machine
end

section
/-! PROOFS. The state of BW16 (10_state.md): what every step keeps of SEQ, LIFE, the port registers and the trace (R27 to
R37), what no step reads (R21, R42), and the latch log (R38). -/

namespace Sys2Proof.Machine

/-! ## What the parts of a step leave unchanged -/

section Frame

variable {s : State}

/-- A micro-operation appends one event to the trace (R37, R90, R99 to R102). -/
theorem PinAction.trace {u : State} (hu : PinAction s u) : ∃ e, u.trace = s.trace ++ [e] := by
  cases hu <;> exact ⟨_, rfl⟩

/-- No micro-operation changes LIFE (R33). -/
theorem PinAction.life {u : State} (hu : PinAction s u) : u.life = s.life := by
  cases hu <;> rfl

/-- The micro-operation an INIT micro-step issued is a pin-side one (R112). -/
theorem pinAction_of_exec_initOp {order : InitOrder} {k : InitStep} {u : State}
    (hu : exec (initOp order k) s = .next u) : PinAction s u := by
  obtain ⟨u', hu', hpin⟩ := exec_initOp_pinAction order k s
  cases hu.symm.trans hu'
  exact hpin

theorem raiseOr_withSeq_view (e : Option Err) (q : SeqState) (s : State) :
    (raiseOr e (fun t => t.withSeq q) s).view = s.view := by
  cases e <;> rfl

@[simp] theorem raiseOr_withSeq_lines (e : Option Err) (q : SeqState) (s : State) :
    (raiseOr e (fun t => t.withSeq q) s).lines = s.lines :=
  congrArg View.lines (raiseOr_withSeq_view e q s)

theorem raiseOr_withSeq_life (e : Option Err) (q : SeqState) (s : State) :
    (raiseOr e (fun t => t.withSeq q) s).life = s.life := by
  cases e <;> rfl

theorem afterInitStep_view (k : InitStep) (s : State) : (afterInitStep k s).view = s.view := by
  unfold afterInitStep
  cases k.next <;> rfl

theorem InitStep.next_eq_none_iff (k : InitStep) : k.next = none ↔ k = .m16 := by
  cases k <;> decide

end Frame

/-! ## SEQ and LIFE (R33, R162) -/

/-- The value of LIFE under which an operation can be in the place SEQ names; any in Idle. -/
def SeqState.life : SeqState → Option Lifecycle
  | .idle => none
  | .initStep _ => some .uninit
  | .dcPending _ _ => some .ready
  | .dcSet _ => some .ready
  | .fetch _ _ => some .ready
  | .writing _ _ _ _ => some .ready

theorem seqLifeAgree_iff (s : State) : SeqLifeAgree s ↔ ∀ l, s.seq.life = some l → s.life = l := by
  unfold SeqLifeAgree
  cases s.seq with
  | writing i w k ws => simpa [SeqState.life] using ⟨fun h => h i w k ws rfl rfl rfl rfl, fun h _ _ _ _ _ _ _ _ => h⟩
  | _ => simp [SeqState.life]

theorem SeqLifeAgree.of_idle {s : State} (hq : s.seq = .idle) : SeqLifeAgree s := by
  simp [seqLifeAgree_iff, hq, SeqState.life]

theorem SeqLifeAgree.life_eq {s : State} (h : SeqLifeAgree s) {q : SeqState} {l : Lifecycle} (hq : s.seq = q)
    (hl : q.life = some l) : s.life = l :=
  (seqLifeAgree_iff s).mp h l (hq ▸ hl)

theorem SeqLifeAgree.of_life {s : State} {l : Lifecycle} (hq : s.seq.life = some l) (hl : s.life = l) : SeqLifeAgree s := by
  rw [seqLifeAgree_iff, hq]
  rintro l' ⟨⟩
  exact hl

/-- A raise ends in Idle; without one, SEQ is `q` and LIFE as before. -/
theorem SeqLifeAgree.raiseOr_withSeq {s : State} {q : SeqState} {l : Lifecycle} (e : Option Err) (hq : q.life = some l)
    (hl : s.life = l) : SeqLifeAgree (raiseOr e (fun t => t.withSeq q) s) := by
  cases e with
  | none => exact .of_life hq hl
  | some e => exact .of_idle rfl

theorem SeqLifeAgree.afterInitStep {s : State} (k : InitStep) (hl : s.life = .uninit) :
    SeqLifeAgree (afterInitStep k s) := by
  unfold Machine.afterInitStep
  cases k.next with
  | none => exact .of_idle rfl
  | some k' => exact .of_life (l := .uninit) rfl hl

/-- Settles O43: a step that ends an operation leaves Idle, and one that goes on stays in the class of SEQ states whose LIFE
the state before it has, or is the acceptance that checked LIFE. -/
theorem stepKeepsSeqLifeAgree : Obligations.StepKeepsSeqLifeAgree := by
  intro s t h hst
  cases step_inversion hst with
  | rest => exact h
  | reset => exact .of_idle rfl
  | acceptInit _ _ _ hl => exact .of_life (l := .uninit) rfl hl
  | acceptRelease _ _ hi => exact .of_idle hi
  | acceptSend _ _ _ _ _ _ hl => exact .of_life (l := .ready) rfl hl
  | initStep k u hq hu => exact .afterInitStep k ((pinAction_of_exec_initOp hu).life.trans (h.life_eq hq rfl))
  | dc _ _ hq | word2 _ _ _ hq | word4 _ _ _ hq => exact .raiseOr_withSeq (l := .ready) _ rfl (h.life_eq hq rfl)
  | dispatch _ _ hq | pull _ _ _ _ hq | word1 _ _ _ hq | word3 _ _ _ hq | word5 _ _ _ hq =>
    exact .of_life (l := .ready) rfl (h.life_eq hq rfl)
  | unsupported | pullEnd => exact .of_idle rfl

/-- The four ways LIFE can go in a step (R162). -/
theorem StepTo.life_cases {s t : State} (h : SeqLifeAgree s) (hst : StepTo s t) :
    t.life = s.life ∨ (t.life = .ready ∧ s.life = .uninit ∧ s.seq = .initStep .m16) ∨
      (t.life = .released ∧ s.life = .ready ∧ s.seq = .idle ∧ ∃ d w, hostDue s = some (.op 0x30#8 d w)) ∨
      (t.life = .uninit ∧ s.seq = .idle ∧ ∃ w, hostDue s = some (.reset w)) := by
  cases hst with
  | reset w hi hd => exact .inr (.inr (.inr ⟨rfl, hi, w, hd⟩))
  | acceptRelease d w hi hl hd => exact .inr (.inr (.inl ⟨rfl, hl, hi, d, w, hd⟩))
  | initStep k u hq hu =>
    unfold afterInitStep
    cases hk : k.next with
    | none =>
      have hk16 := (InitStep.next_eq_none_iff k).mp hk
      exact .inr (.inl ⟨rfl, h.life_eq hq rfl, hk16 ▸ hq⟩)
    | some k' => exact .inl (pinAction_of_exec_initOp hu).life
  | dc | word2 | word4 => exact .inl (raiseOr_withSeq_life _ _ _)
  | rest | acceptInit | acceptSend | dispatch | unsupported | pull | pullEnd | word1 | word3 | word5 => exact .inl rfl

/-- Settles O50: the only cases of a step that write LIFE are INIT's end, RELEASE and a reset. -/
theorem lifeChangesOnlyAsTabulated : Obligations.LifeChangesOnlyAsTabulated := by
  intro s t h hst
  have hcases := (step_inversion hst).life_cases h
  refine ⟨hcases, fun hs ht => ?_⟩
  rcases hcases with hl | ⟨-, hl, -⟩ | ⟨hl, -⟩ | ⟨-, -, hw⟩
  · exact absurd (hl.trans hs) ht
  · simp [hs] at hl
  · exact absurd hl ht
  · exact hw

/-! ## The port registers (R27 to R32) -/

theorem zext32_upper (w : Word16) : (zext32 w).extractLsb' 16 16 = 0#16 := by
  ext i hi
  simp [zext32]

/-- Whether the upper half is zero depends on ODR alone. -/
theorem OdrUpperZero.of_odr_eq {s t : State} (h : OdrUpperZero s) (ht : t.odr = s.odr) : OdrUpperZero t :=
  fun v hv => h v (ht ▸ hv)

theorem OdrUpperZero.of_written {s : State} {v : Word32} (hs : s.odr = .known v) (hv : v.extractLsb' 16 16 = 0#16) :
    OdrUpperZero s := by
  intro x hx
  cases hs.symm.trans hx
  exact hv

/-- The only word INIT writes to ODR is zero (R112). -/
theorem OdrUpperZero.exec_initOp {s u : State} (h : OdrUpperZero s) {order : InitOrder} {k : InitStep}
    (hu : exec (initOp order k) s = .next u) : OdrUpperZero u := by
  cases k with
  | m6 => cases hu; exact .of_written rfl (by decide)
  | m2 | m3 => cases order <;> cases hu <;> exact h
  | _ => cases hu; exact h

/-- Settles O44: ODR is written by INIT's micro-step 6 and by step 3 of a word only, with zero and with a zero-extended
word. -/
theorem stepKeepsOdrUpperZero : Obligations.StepKeepsOdrUpperZero := by
  intro s t h hst
  cases step_inversion hst with
  | reset => exact nofun
  | initStep k u _ hu => exact (h.exec_initOp hu).of_odr_eq (congrArg View.odr (afterInitStep_view k u))
  | dc | word2 | word4 => exact h.of_odr_eq (congrArg View.odr (raiseOr_withSeq_view _ _ _))
  | word3 _ w => exact .of_written rfl (zext32_upper w)
  | rest | acceptInit | acceptRelease | acceptSend | dispatch | unsupported | pull | pullEnd | word1 | word5 => exact h

/-- Whether the port is uniform depends on the view alone. -/
theorem PortUniform.of_view_eq {s t : State} (h : PortUniform s) (ht : t.view = s.view) : PortUniform t := by
  have hm : t.mode = s.mode := congrArg View.mode ht
  have hp : t.pull = s.pull := congrArg View.pull ht
  have hs : t.speed = s.speed := congrArg View.speed ht
  unfold PortUniform
  rwa [hm, hp, hs]

/-- The two configures write all 16 entries alike, the other micro-operations write none (R99, R100). -/
theorem PortUniform.pinAction {s u : State} (h : PortUniform s) (hu : PinAction s u) : PortUniform u := by
  cases hu with
  | configureOut => exact ⟨.inr (.inl rfl), .inr rfl, .inr rfl⟩
  | configureIn => exact ⟨.inr (.inr rfl), h.2⟩
  | line | writeOdr | readIdr => exact h

/-- Settles O45: INIT's micro-operations keep the port uniform, and outside INIT a step leaves it alone. -/
theorem stepKeepsPortUniform : Obligations.StepKeepsPortUniform := by
  intro s t h hst
  cases step_inversion hst with
  | reset => exact ⟨.inl rfl, .inl rfl, .inl rfl⟩
  | initStep k u _ hu => exact (h.pinAction (pinAction_of_exec_initOp hu)).of_view_eq (afterInitStep_view k u)
  | dc | word2 | word4 => exact (h.pinAction (.line _ _)).of_view_eq (raiseOr_withSeq_view _ _ _)
  | rest | acceptInit | acceptRelease | acceptSend | dispatch | unsupported | pull | pullEnd | word1 | word3 | word5 =>
    exact h

/-- Settles O11: the cases of the pin's definition, with one setting for all 16 lines. -/
theorem pinsFollowModeAndOdr : Obligations.PinsFollowModeAndOdr := by
  intro s i
  refine ⟨fun hm => ?_, fun hm => ?_, fun hm ho => ?_, fun v hm ho => ?_⟩
  · simp [State.pin, hm]
  · simp [State.pin, hm]
  · simp [State.pin, hm, ho]
  · simp [State.pin, hm, ho]

/-- Settles O51: outside INIT the only step on DC or RD is the DC operation of a send, and a line operation leaves the other
lines alone. -/
theorem rdOnlyInInitDcOncePerPayload : Obligations.RdOnlyInInitDcOncePerPayload := by
  intro s t hst hreset hinit
  cases step_inversion hst with
  | reset w _ hd => exact absurd hd (hreset w)
  | initStep k _ hq => exact absurd hq (hinit k)
  | dc kind p hq => exact ⟨by simp [Lines.set], fun hdc => absurd hq (hdc kind p)⟩
  | word2 | word4 => simp [Lines.set]
  | rest | acceptInit | acceptRelease | acceptSend | dispatch | unsupported | pull | pullEnd | word1 | word3 | word5 =>
    exact ⟨rfl, fun _ => rfl⟩

/-! ## The trace (R37) -/

/-- `t` is `s` with one event appended, or one and then a result, or nothing (R37). -/
def AppendsAtMostOne (s t : State) : Prop :=
  ∃ evs, t.trace = s.trace ++ evs ∧ evs.length ≤ 2 ∧ (evs.length = 2 → ∃ r, evs.getLast? = some (.ret r))

section Append

variable {s t u : State}

theorem AppendsAtMostOne.nothing (h : t.trace = s.trace) : AppendsAtMostOne s t :=
  ⟨[], by simp [h], by simp, by simp⟩

theorem AppendsAtMostOne.one {e : Event} (h : t.trace = s.trace ++ [e]) : AppendsAtMostOne s t :=
  ⟨[e], h, by simp, by simp⟩

theorem AppendsAtMostOne.oneAndRet {e : Event} {r : Result} (h : t.trace = s.trace ++ [e] ++ [.ret r]) :
    AppendsAtMostOne s t :=
  ⟨[e, .ret r], by simp [h], by simp, fun _ => ⟨r, rfl⟩⟩

theorem AppendsAtMostOne.raiseOr_withSeq {e : Event} (h : u.trace = s.trace ++ [e]) (err : Option Err) (q : SeqState) :
    AppendsAtMostOne s (raiseOr err (fun t => t.withSeq q) u) := by
  cases err with
  | none => exact .one h
  | some err => exact .oneAndRet (e := e) (r := .err err) (by simp [h])

theorem AppendsAtMostOne.afterInitStep {e : Event} (h : u.trace = s.trace ++ [e]) (k : InitStep) :
    AppendsAtMostOne s (afterInitStep k u) := by
  unfold Machine.afterInitStep
  cases k.next with
  | none => exact .oneAndRet (e := e) (r := .ok) (by simp [h])
  | some k' => exact .one h

end Append

/-- Settles O49: a step but a reset appends the event of what it does, and then the result of what it ends. -/
theorem traceIsAppendOnly : Obligations.TraceIsAppendOnly := by
  intro s t hst hreset
  change AppendsAtMostOne s t
  cases step_inversion hst with
  | reset w _ hd => exact absurd hd (hreset w)
  | initStep k u _ hu =>
    obtain ⟨e, he⟩ := (pinAction_of_exec_initOp hu).trace
    exact .afterInitStep he k
  | dc | word2 | word4 => exact .raiseOr_withSeq rfl _ _
  | rest | dispatch => exact .nothing rfl
  | acceptInit | acceptSend | unsupported | pull | word1 | word3 | word5 => exact .one rfl
  | acceptRelease | pullEnd => exact .oneAndRet rfl

/-! ## The reset state (R42, R180) -/

/-- Settles O29: nothing is known, nothing is traced, BW16 is idle and nobody asks. -/
theorem resetMeetsTheInvariants : Obligations.ResetMeetsTheInvariants := by
  refine ⟨.of_idle rfl, nofun, ⟨.inl rfl, .inl rfl, .inl rfl⟩, rfl, nofun, ⟨nofun, nofun⟩, ?_⟩
  exact runSteps_of_step_self (step_of_idle_of_no_event rfl rfl)

/-! ## What no step reads (R21, R42) -/

/-- `s` with the line levels, the port registers, the sample and the level policy forgotten. -/
def State.control (s : State) : State :=
  { s with
    lines := State.reset.lines, mode := .unknown, pull := .unknown, speed := .unknown, odr := .unknown,
    idSample := .unknown, params := { s.params with failLevel := .unchanged } }

/-- An outcome with its next state's levels, registers, sample and policy forgotten. -/
def outcomeControl : Host.Outcome State Fault Refusal → Host.Outcome State Fault Refusal
  | .next t => .next t.control
  | .fault f => .fault f
  | .refused r => .refused r

/-- What the next step is about, with the levels, registers, sample and policy forgotten. -/
def Fetched.control : Fetched → Fetched
  | .rest => .rest
  | .reset t => .reset t.control
  | .reject r => .reject r
  | .run i t => .run i t.control

theorem sameControl_iff (s t : State) : SameControl s t ↔ s.control = t.control := by
  simp [SameControl, State.control]

theorem sameOutcome_iff (x y : Host.Outcome State Fault Refusal) :
    SameOutcome x y ↔ outcomeControl x = outcomeControl y := by
  cases x with
  | next s => cases y <;> simp [SameOutcome, outcomeControl, sameControl_iff]
  | fault f => cases y <;> simp [SameOutcome, outcomeControl]
  | refused r => cases y <;> simp [SameOutcome, outcomeControl]

section Control

variable (s : State)

@[simp] theorem State.control_seq : s.control.seq = s.seq := rfl
@[simp] theorem State.control_life : s.control.life = s.life := rfl
@[simp] theorem State.control_initOrder : s.control.params.initOrder = s.params.initOrder := rfl
@[simp] theorem State.control_nextAnswer : s.control.nextAnswer = s.nextAnswer := rfl

theorem accept_control (h : Byte) (needs : Lifecycle) (next : State → State)
    (hn : ∀ t, (next t).control = (next t.control).control) :
    outcomeControl (accept h needs next s) = outcomeControl (accept h needs next s.control) := by
  unfold accept
  rw [State.control_seq, State.control_life]
  split
  · split
    · exact congrArg Host.Outcome.next (hn _)
    · rfl
  · rfl

theorem acceptSend_control (kind : SendKind) (f : Fmt) :
    outcomeControl (acceptSend kind f s) = outcomeControl (acceptSend kind f s.control) :=
  accept_control s _ _ _ fun _ => rfl

theorem execWritePayload_control :
    outcomeControl (execWritePayload s) = outcomeControl (execWritePayload s.control) := by
  unfold execWritePayload
  rw [State.control_seq]
  cases s.seq with
  | dcSet p => dsimp only; cases widthOf p.fmt <;> rfl
  | _ => rfl

theorem execWriteSequence_control :
    outcomeControl (execWriteSequence s) = outcomeControl (execWriteSequence s.control) := by
  unfold execWriteSequence
  rw [State.control_seq]
  cases s.seq with
  | fetch i ws => dsimp only; cases ws.next <;> rfl
  | _ => rfl

theorem driveWord_control (w : Word16) :
    (driveWord w s).1 = (driveWord w s.control).1 ∧ (driveWord w s).2.control = (driveWord w s.control).2.control := by
  have h1 : (lineOp .cs .low s.control).nextAnswer = (lineOp .cs .low s).nextAnswer := rfl
  have h2 : (writeOdr (zext32 w) (lineOp .wr .low (lineOp .cs .low s.control))).nextAnswer =
    (writeOdr (zext32 w) (lineOp .wr .low (lineOp .cs .low s))).nextAnswer := rfl
  unfold driveWord
  dsimp only
  rw [h1, h2]
  split
  · exact ⟨rfl, rfl⟩
  · split <;> exact ⟨rfl, rfl⟩

theorem wordReturn_control (r : Result) : (wordReturn r s).control = (wordReturn r s.control).control := by
  unfold wordReturn
  rw [State.control_seq]
  cases s.seq with
  | writing => cases r <;> rfl
  | _ => rfl

theorem execDriveWord_control (w : Word16) :
    outcomeControl (execDriveWord w s) = outcomeControl (execDriveWord w s.control) := by
  unfold execDriveWord
  rw [State.control_life]
  cases s.life with
  | ready =>
    obtain ⟨hr, hs⟩ := driveWord_control s w
    refine congrArg Host.Outcome.next ?_
    rw [wordReturn_control, hr, hs, ← wordReturn_control]
  | _ => rfl

/-- What an operation does to the control depends on the control alone. -/
theorem exec_control (i : Instr) : outcomeControl (exec i s) = outcomeControl (exec i s.control) := by
  cases i with
  | init => exact accept_control s 0x00#8 .uninit (fun t => t.withSeq (.initStep .m1)) fun _ => rfl
  | release => exact accept_control s 0x30#8 .ready (fun t => finish .ok (t.withLife .released)) fun _ => rfl
  | driveWord w => exact execDriveWord_control s w
  | writeSequence => exact execWriteSequence_control s
  | writePayload => exact execWritePayload_control s
  | csLow | csHigh | wrLow | wrHigh | dcLow | dcHigh | rdLow | rdHigh | cfgOut | cfgIn | odrWrite | idrRead => rfl
  | _ => exact acceptSend_control s _ _

theorem raiseOr_withSeq_control (e : Option Err) (q : SeqState) :
    (raiseOr e (fun t => t.withSeq q) s).control = (raiseOr e (fun t => t.withSeq q) s.control).control := by
  cases e <;> rfl

theorem advance_control (q : SeqState) (a : Answer) : (advance q a s).control = (advance q a s.control).control := by
  cases q with
  | initStep k => cases k <;> rfl
  | dcPending kind p => exact raiseOr_withSeq_control s _ _
  | writing i w k ws =>
    cases k with
    | d3 => rfl
    | _ => exact raiseOr_withSeq_control s _ _
  | _ => rfl

theorem fetchNext_control : fetchNext s.control = (fetchNext s).control := by
  have hd : hostDue s.control = hostDue s := rfl
  unfold fetchNext
  rw [hd]
  split
  · split <;> rfl
  · rw [State.control_seq]
    split <;> rfl
  · rw [State.control_seq, State.control_initOrder]
    split <;> rfl

/-- What a step does to the control depends on the control alone. -/
theorem step_control : outcomeControl (step s) = outcomeControl (step s.control) := by
  unfold step
  rw [fetchNext_control]
  cases fetchNext s with
  | rest | reset | reject => rfl
  | run i t =>
    have h := exec_control t i
    dsimp only [Fetched.control]
    cases hx : exec i t with
    | next u =>
      cases hy : exec i t.control with
      | next v =>
        have huv : u.control = v.control := by simpa [hx, hy, outcomeControl] using h
        refine congrArg Host.Outcome.next ?_
        rw [advance_control, huv, ← advance_control, State.control_seq, State.control_nextAnswer]
      | fault | refused => simp [hx, hy, outcomeControl] at h
    | fault | refused => cases hy : exec i t.control <;> simp_all [outcomeControl]

end Control

/-- Settles O53: a step factors through the control of a state. -/
theorem levelsAndPolicyNeverDecide : Obligations.LevelsAndPolicyNeverDecide := by
  intro s t h
  rw [sameOutcome_iff, step_control s, step_control t, (sameControl_iff s t).mp h]

/-! ## The latch log (R38) -/

/-- The latch log of a trace goes on from the view its first part leaves. -/
theorem latchLogFrom_append (policy : FailLevelPolicy) (v : View) (T U : List Event) :
    latchLogFrom policy v (T ++ U) =
      latchLogFrom policy v T ++ latchLogFrom policy (T.foldl (View.apply policy) v) U := by
  induction T generalizing v with
  | nil => rfl
  | cons e T ih => simp [latchLogFrom, ih]

/-- In a state whose trace tells all, what a run appends is latched from the state's own view. -/
theorem TraceTellsAll.latches_append {s t : State} (h : TraceTellsAll s) {T : List Event} (hp : t.params = s.params)
    (ht : t.trace = s.trace ++ T) : t.latches = s.latches ++ latchLogFrom s.params.failLevel s.view T := by
  unfold State.latches latchLog
  rw [hp, ht, latchLogFrom_append, h, replay]

/-- What a `WR_HIGH` adds to the latch log: the entry of the edge it makes, if it makes one (R94). -/
theorem latches_wrHigh {s : State} (h : TraceTellsAll s) :
    (lineOp .wr .high s).latches =
      s.latches ++ ((edgeOf s.params.failLevel s.lines.wr s.nextAnswer).map (latchEntry s.view)).toList := by
  rw [h.latches_append (t := lineOp .wr .high s) (T := [.lineOp .wr .high s.nextAnswer]) rfl rfl]
  simp [latchLogFrom, latchOf, State.view]

/-- Settles O54: the edge of a `WR_HIGH` in each case of R38. -/
theorem wrHighLatches : Obligations.WrHighLatches := by
  intro s h
  refine ⟨lineOp .wr .high s, rfl, ?_⟩
  rw [latches_wrHigh h]
  refine ⟨fun hl => ?_, fun ha hl => ?_, fun ha hl => ?_, fun ha hp => ?_, fun ha hp hl => ?_⟩
  · simp [edgeOf, hl]
  · simp [edgeOf, hl, ha]
  · simp [edgeOf, hl, ha]
  · rcases hl : s.lines.wr with _ | (_ | _) <;> simp [edgeOf, ha, hp]
  · rcases hw : s.lines.wr with _ | (_ | _)
    · simp [edgeOf, ha, hp]
    · simp [edgeOf, ha, hp]
    · exact absurd hw hl

/-! ## A failure-free send operation (R23, R136) -/

/-- From `s`, `k` steps come to `t`: they append the events `T`, `n` of them line operations, and leave LIFE, the host's plan
and the parameters as they are. -/
structure RunTo (s : State) (k n : Nat) (T : List Event) (t : State) : Prop where
  run : runSteps k s = .next t
  life : t.life = s.life
  inbox : t.inbox = s.inbox
  params : t.params = s.params
  lineCount : t.lineCount = s.lineCount + n
  trace : t.trace = s.trace ++ T

section RunTo

variable {s t u : State} {k n : Nat} {T : List Event}

theorem RunTo.trans {k' n' : Nat} {T' : List Event} (h : RunTo s k n T t) (h' : RunTo t k' n' T' u) :
    RunTo s (k + k') (n + n') (T ++ T') u where
  run := (runSteps_add h.run).trans h'.run
  life := h'.life.trans h.life
  inbox := h'.inbox.trans h.inbox
  params := h'.params.trans h.params
  lineCount := by rw [h'.lineCount, h.lineCount, Nat.add_assoc]
  trace := by rw [h'.trace, h.trace, List.append_assoc]

theorem RunTo.lineAnswer (h : RunTo s k n T t) : t.lineAnswer = s.lineAnswer := by
  funext j
  simp [State.lineAnswer, h.params]

theorem RunTo.ans (h : RunTo s k n T t) (j : Nat) : t.ans j = s.ans (n + j) := by
  rw [State.ans, State.ans, h.lineAnswer, h.lineCount, Nat.add_assoc]

theorem RunTo.hostWaits (h : RunTo s k n T t) : t.hostWaits = s.hostWaits :=
  congrArg HostPlan.waits h.inbox

/-- A step while an operation runs and the host waits, with the place of SEQ named. -/
theorem step_of_seq {q : SeqState} {i : Instr} (hw : s.hostWaits = true) (hq : s.seq = q)
    (hi : issued s.params.initOrder q = some i) (hx : exec i s = .next u) :
    step s = .next (advance q s.nextAnswer u) :=
  hq ▸ step_of_issued hw (hq ▸ hi) hx

end RunTo

/-- The constructor of a send operation, from its kind and tag (R73). -/
def sendOf : SendKind → Fmt → Instr
  | .cmd => sendCmdOf
  | .data => sendDataOf

theorem exec_sendOf (kind : SendKind) (f : Fmt) (s : State) : exec (sendOf kind f) s = acceptSend kind f s := by
  cases kind with
  | cmd => exact exec_sendCmdOf f s
  | data => exact exec_sendDataOf f s

/-- A row of the send operations: its header is the one of its kind and tag, and decodes to its operation (R72, R73). -/
theorem sendRows_header_decode (c : BitVec 3) :
    ∀ r ∈ sendRows c, r.header = sendHeader r.kind r.fmt ∧ decodeHeader r.header = .ok (sendOf r.kind r.fmt) := by
  revert c
  decide

/-- `s` right after the acceptance of a send operation with payload `d`, the plan moved on to `rest` (R130, R131). -/
def State.sendAccepted (s : State) (kind : SendKind) (f : Fmt) (d : ElemStream) (rest : HostPlan) : State :=
  { s with
    inbox := rest, offer := ElemStream.empty, seq := .dcPending kind ⟨f, d⟩,
    trace := s.trace ++ [.accept (sendHeader kind f)] }

/-- A send operation asked for in Ready and Idle is accepted with the payload the host presents (R130, R131). -/
theorem step_acceptSend {s : State} {h : Byte} {kind : SendKind} {f : Fmt} {d : ElemStream} {w : Bool} {rest : HostPlan}
    (hh : decodeHeader h = .ok (sendOf kind f)) (hl : s.life = .ready) (hq : s.seq = .idle)
    (hx : s.inbox.next = some (.op h d w, rest)) :
    step s = .next (s.sendAccepted kind f d rest) := by
  rw [step_of_run_idle (fetchNext_of_request hq hx hh) hq, exec_sendOf]
  simp [State.sendAccepted, acceptSend, accept, hq, hl, SeqState.isIdle, State.emit, State.withOffer, State.withSeq]

/-- The DC operation of a send, answered ok (R134). -/
theorem runTo_dc {s : State} {kind : SendKind} {p : Payload} (hw : s.hostWaits = true) (hq : s.seq = .dcPending kind p)
    (ha : s.ans 0 = .ok) : ∃ t, RunTo s 1 1 [.lineOp .dc (dcLevel kind) .ok] t ∧ t.seq = .dcSet p := by
  have hx : step s = .next (advance (.dcPending kind p) (s.ans 0) (lineOp .dc (dcLevel kind) s)) := by
    cases kind <;> exact step_of_seq hw hq rfl rfl
  have hs : step s = .next ((lineOp .dc (dcLevel kind) s).withSeq (.dcSet p)) := by
    rw [hx, ha]
    rfl
  exact ⟨_, ⟨runSteps_succ hs, rfl, rfl, rfl, rfl, congrArg (s.trace ++ [.lineOp .dc (dcLevel kind) ·]) ha⟩, rfl⟩

/-- The dispatch of a supported tag (R132). -/
theorem runTo_dispatch {s : State} {p : Payload} {wd : ElemWidth} (hw : s.hostWaits = true) (hq : s.seq = .dcSet p)
    (hf : widthOf p.fmt = some wd) : ∃ t, RunTo s 1 0 [] t ∧ t.seq = .fetch 0 ⟨wd, p.data⟩ := by
  have hx : exec .writePayload s = .next (s.withSeq (.fetch 0 ⟨wd, p.data⟩)) := by
    simp [exec, execWritePayload, hq, hf]
  exact ⟨_, ⟨runSteps_succ (step_of_seq hw hq rfl hx), rfl, rfl, rfl, rfl, (List.append_nil _).symm⟩, rfl⟩

/-- The pull of an element (R133). -/
theorem runTo_pull {s : State} {i : Nat} {ws rest : WordSeq} {el : Elem} (hw : s.hostWaits = true)
    (hq : s.seq = .fetch i ws) (hn : ws.next = some (el, rest)) :
    ∃ t, RunTo s 1 0 [.pull i (.elem el)] t ∧ t.seq = .writing i (wordOf el) .d1 rest := by
  have hx : exec .writeSequence s = .next ((s.emit (.pull i (.elem el))).withSeq (.writing i (wordOf el) .d1 rest)) := by
    simp [exec, execWriteSequence, hq, hn]
  exact ⟨_, ⟨runSteps_succ (step_of_seq hw hq rfl hx), rfl, rfl, rfl, rfl, rfl⟩, rfl⟩

/-- The pull that finds the payload ended, and the operation with it (R133). -/
theorem runTo_pullEnd {s : State} {i : Nat} {ws : WordSeq} (hw : s.hostWaits = true) (hq : s.seq = .fetch i ws)
    (hn : ws.next = none) : ∃ t, RunTo s 1 0 [.pull i .ended, .ret .ok] t ∧ t.seq = .idle := by
  have hx : exec .writeSequence s = .next (finish .ok (s.emit (.pull i .ended))) := by
    simp [exec, execWriteSequence, hq, hn]
  exact ⟨_, ⟨runSteps_succ (step_of_seq hw hq rfl hx), rfl, rfl, rfl, rfl, List.append_assoc _ _ _⟩, rfl⟩

/-- A line operation of a word whose answer raises nothing: SEQ moves on to `q` (R110, R134). -/
theorem runTo_wordLine {s : State} {i : Nat} {w : Word16} {k : WordStep} {ws : WordSeq} {l : LineId} {lvl : Level}
    {q : SeqState} (hw : s.hostWaits = true) (hq : s.seq = .writing i w k ws)
    (hx : exec (wordOp w k) s = .next (lineOp l lvl s))
    (ha : ∀ t, afterWordStep i w k ws (s.ans 0) t = t.withSeq q) :
    ∃ t, RunTo s 1 1 [.lineOp l lvl (s.ans 0)] t ∧ t.seq = q := by
  have hs : step s = .next ((lineOp l lvl s).withSeq q) :=
    (step_of_seq hw hq rfl hx).trans (congrArg Host.Outcome.next (ha _))
  exact ⟨_, ⟨runSteps_succ hs, rfl, rfl, rfl, rfl, rfl⟩, rfl⟩

/-- Step 3 of a word: its value is written to ODR (R110). -/
theorem runTo_wordOdr {s : State} {i : Nat} {w : Word16} {ws : WordSeq} (hw : s.hostWaits = true)
    (hq : s.seq = .writing i w .d3 ws) : ∃ t, RunTo s 1 0 [.odrWrite (zext32 w)] t ∧ t.seq = .writing i w .d4 ws :=
  ⟨_, ⟨runSteps_succ (step_of_seq hw hq rfl rfl), rfl, rfl, rfl, rfl, rfl⟩, rfl⟩

/-- The five steps of a word whose WR operations answer ok, whatever CS answers (R110, R134). -/
theorem runTo_word {s : State} {i : Nat} {w : Word16} {ws : WordSeq} (hw : s.hostWaits = true)
    (hq : s.seq = .writing i w .d1 ws) (h1 : s.ans 1 = .ok) (h2 : s.ans 2 = .ok) :
    ∃ t, RunTo s 5 4 (wordEvents (s.ans 0) (s.ans 1) (s.ans 2) (s.ans 3) w) t ∧ t.seq = .fetch (i + 1) ws := by
  obtain ⟨t1, r1, q1⟩ := runTo_wordLine (q := .writing i w .d2 ws) hw hq rfl fun t => by simp [afterWordStep]
  have a1 : t1.ans 0 = s.ans 1 := r1.ans 0
  obtain ⟨t2, r2, q2⟩ := runTo_wordLine (q := .writing i w .d3 ws) (r1.hostWaits.trans hw) q1 rfl fun t => by
    simp [afterWordStep, a1, h1]
  have r12 := r1.trans r2
  obtain ⟨t3, r3, q3⟩ := runTo_wordOdr (r12.hostWaits.trans hw) q2
  have r13 := r12.trans r3
  have a3 : t3.ans 0 = s.ans 2 := r13.ans 0
  obtain ⟨t4, r4, q4⟩ := runTo_wordLine (q := .writing i w .d5 ws) (r13.hostWaits.trans hw) q3 rfl fun t => by
    simp [afterWordStep, a3, h2]
  have r14 := r13.trans r4
  have a4 : t4.ans 0 = s.ans 3 := r14.ans 0
  obtain ⟨t5, r5, q5⟩ := runTo_wordLine (q := .fetch (i + 1) ws) (r14.hostWaits.trans hw) q4 rfl fun t => by
    simp [afterWordStep]
  have r15 := r14.trans r5
  rw [a1, a3, a4] at r15
  exact ⟨t5, r15, q5⟩

/-- One turn of the loop of `writeSequence`: the pull of an element and its word (R133). -/
theorem runTo_element {s : State} {i : Nat} {ws rest : WordSeq} {el : Elem} (hw : s.hostWaits = true)
    (hq : s.seq = .fetch i ws) (hn : ws.next = some (el, rest)) (h1 : s.ans 1 = .ok) (h2 : s.ans 2 = .ok) :
    ∃ t, RunTo s 6 4 (.pull i (.elem el) :: wordEvents (s.ans 0) (s.ans 1) (s.ans 2) (s.ans 3) (wordOf el)) t ∧
      t.seq = .fetch (i + 1) rest := by
  obtain ⟨u, ru, qu⟩ := runTo_pull hw hq hn
  have hu : u.ans = s.ans := by
    funext j
    rw [ru.ans, Nat.zero_add]
  obtain ⟨t, rt, qt⟩ := runTo_word (ru.hostWaits.trans hw) qu (hu ▸ h1) (hu ▸ h2)
  rw [hu] at rt
  exact ⟨t, ru.trans rt, qt⟩

/-- The words of a payload that delivers `xs` and ends, from a pull to the result, when WR answers ok (R133, R136). -/
theorem runTo_words {wd : ElemWidth} {e : ElemStream} (he : e.next = none) {xs : List Word16} {s : State} {i : Nat}
    {d : ElemStream} (hw : s.hostWaits = true) (hq : s.seq = .fetch i ⟨wd, d⟩) (hd : Delivers d xs e)
    (ha : ∀ j < xs.length, s.ans (4 * j + 1) = .ok ∧ s.ans (4 * j + 2) = .ok) :
    ∃ t, RunTo s (6 * xs.length + 1) (4 * xs.length)
      (wordsEvents s.lineAnswer s.lineCount i (xs.map (elemOf wd)) ++ [.pull (i + xs.length) .ended, .ret .ok]) t ∧
      t.seq = .idle := by
  induction xs generalizing s i d with
  | nil =>
    cases hd
    exact runTo_pullEnd hw hq (by simp [WordSeq.next, he])
  | cons x xs ih =>
    obtain ⟨d', hx, hd'⟩ := hd
    obtain ⟨h1, h2⟩ := ha 0 (by simp)
    obtain ⟨u, ru, qu⟩ := runTo_element (el := elemOf wd x) (rest := ⟨wd, d'⟩) hw hq (by simp [WordSeq.next, hx]) h1 h2
    have hu : ∀ j < xs.length, u.ans (4 * j + 1) = .ok ∧ u.ans (4 * j + 2) = .ok := by
      intro j hj
      have h := ha (j + 1) (by simpa using hj)
      rw [show 4 * (j + 1) + 1 = 4 + (4 * j + 1) by ring, show 4 * (j + 1) + 2 = 4 + (4 * j + 2) by ring] at h
      rwa [ru.ans, ru.ans]
    obtain ⟨t, rt, qt⟩ := ih (ru.hostWaits.trans hw) qu hd' hu
    have h := ru.trans rt
    rw [ru.lineAnswer, ru.lineCount, Nat.add_right_comm i 1] at h
    have hsteps : 6 * (x :: xs).length + 1 = 6 + (6 * xs.length + 1) := by rw [List.length_cons]; ring
    have hops : 4 * (x :: xs).length = 4 + 4 * xs.length := by rw [List.length_cons]; ring
    rw [hsteps, hops]
    exact ⟨t, h, qt⟩

/-- A whole send operation with a supported tag and no failure of DC or WR, from its request to its result (R130 to R136). -/
theorem runSteps_send {s : State} {kind : SendKind} {f : Fmt} {wd : ElemWidth} {h : Byte} {d e : ElemStream}
    {xs : List Word16} {w : Bool} {rest : HostPlan} (hh : decodeHeader h = .ok (sendOf kind f))
    (hf : widthOf f = some wd) (hl : s.life = .ready) (hq : s.seq = .idle)
    (hx : s.inbox.next = some (.op h d w, rest)) (hr : rest.waits = true) (hd : Delivers d xs e) (he : e.next = none)
    (ha : s.ans 0 = .ok) (has : ∀ j < xs.length, s.ans (4 * j + 2) = .ok ∧ s.ans (4 * j + 3) = .ok) :
    ∃ t, runSteps (6 * xs.length + 4) s = .next t ∧ t.seq = .idle ∧ t.life = .ready ∧ t.inbox = rest ∧
      t.params = s.params ∧ t.lineCount = s.lineCount + 4 * xs.length + 1 ∧
      t.trace = s.trace ++ [.accept (sendHeader kind f), .lineOp .dc (dcLevel kind) .ok] ++
        wordsEvents s.lineAnswer (s.lineCount + 1) 0 (xs.map (elemOf wd)) ++ [.pull xs.length .ended, .ret .ok] := by
  have hs := step_acceptSend hh hl hq hx
  have hans : (s.sendAccepted kind f d rest).lineAnswer = s.lineAnswer := rfl
  have hcount : (s.sendAccepted kind f d rest).lineCount = s.lineCount := rfl
  have htrace : (s.sendAccepted kind f d rest).trace = s.trace ++ [.accept (sendHeader kind f)] := rfl
  obtain ⟨t1, r1, q1⟩ := runTo_dc (s := s.sendAccepted kind f d rest) hr rfl ha
  obtain ⟨t2, r2, q2⟩ := runTo_dispatch (r1.hostWaits.trans hr) q1 hf
  have r2 := r1.trans r2
  have h2 : ∀ j < xs.length, t2.ans (4 * j + 1) = .ok ∧ t2.ans (4 * j + 2) = .ok := by
    intro j hj
    rw [r2.ans, r2.ans, show 1 + 0 + (4 * j + 1) = 4 * j + 2 by ring, show 1 + 0 + (4 * j + 2) = 4 * j + 3 by ring]
    exact has j hj
  obtain ⟨t, rt, qt⟩ := runTo_words he (r2.hostWaits.trans hr) q2 hd h2
  have r := r2.trans rt
  rw [r2.lineAnswer, r2.lineCount] at r
  refine ⟨t, ?_, qt, r.life.trans hl, r.inbox, r.params, ?_, ?_⟩
  · rw [show 6 * xs.length + 4 = (1 + 1 + (6 * xs.length + 1)) + 1 by ring, runSteps_succ hs, r.run]
  · rw [r.lineCount, hcount]
    ring
  · rw [r.trace, htrace, hans, hcount]
    simp

theorem lowHalf_zext32 (w : Word16) : lowHalf (.known (zext32 w)) = .known w := by
  have h : (zext32 w).extractLsb' 0 16 = w := by
    ext i hi
    simp [zext32, hi, show i < 32 by omega]
  rw [lowHalf, h]

/-- A word with every answer ok latches one entry: its own WR_LOW made the edge certain, its CS_LOW and ODR write are what the
panel sees (R38, R118). -/
theorem latchLogFrom_wordEvents (policy : FailLevelPolicy) (v : View) (w : Word16) :
    latchLogFrom policy v (wordEvents .ok .ok .ok .ok w) =
      [⟨.certain, v.lines.dc, .known .low, v.lines.rd, v.mode, .known w⟩] := by
  simp [wordEvents, latchLogFrom, latchOf, View.apply, Lines.set, Lines.get, edgeOf, latchEntry, lowHalf_zext32]

/-- What a payload's words latch when every answer is ok: one entry each, under the DC, RD and MODE of the start. -/
theorem latchLogFrom_wordsEvents (policy : FailLevelPolicy) {ans : Nat → Answer} {els : List Elem} {n : Nat} (i : Nat)
    (v : View) (ha : ∀ j < 4 * els.length, ans (n + j) = .ok) :
    latchLogFrom policy v (wordsEvents ans n i els) =
      els.map fun el => ⟨.certain, v.lines.dc, .known .low, v.lines.rd, v.mode, .known (wordOf el)⟩ := by
  induction els generalizing n i v with
  | nil => rfl
  | cons el els ih =>
    have hlen : (el :: els).length = els.length + 1 := rfl
    have h0 : ans n = .ok := ha 0 (by omega)
    have h1 : ans (n + 1) = .ok := ha 1 (by omega)
    have h2 : ans (n + 2) = .ok := ha 2 (by omega)
    have h3 : ans (n + 3) = .ok := ha 3 (by omega)
    have hrest : ∀ j < 4 * els.length, ans (n + 4 + j) = .ok := fun j hj =>
      Nat.add_assoc n 4 j ▸ ha (4 + j) (by omega)
    rw [wordsEvents, h0, h1, h2, h3, latchLogFrom, latchLogFrom_append, latchLogFrom_wordEvents, ih _ _ hrest]
    rfl

/-- Settles O55: the run of the send fixes its trace, and the trace its latches: the DC operation sets the level all entries
share. -/
theorem failureFreeSendLatchesItsWords : Obligations.FailureFreeSendLatchesItsWords := by
  intro s c r hr wd d e xs w rest hf hl hq hx hrest hd he htells hok
  obtain ⟨hh, hdec⟩ := sendRows_header_decode c r hr
  obtain ⟨t, ht, hqt, -, -, hp, -, htrace⟩ := runSteps_send hdec hf hl hq hx hrest hd he (hok 0 (by omega))
    fun j hj => ⟨hok (4 * j + 2) (by omega), hok (4 * j + 3) (by omega)⟩
  refine ⟨t, ht, hqt, ?_⟩
  have hans : ∀ j < 4 * (xs.map (elemOf wd)).length, s.lineAnswer (s.lineCount + 1 + j) = .ok := by
    intro j hj
    rw [List.length_map] at hj
    rw [Nat.add_assoc]
    exact hok (1 + j) (by omega)
  rw [List.append_assoc, List.append_assoc] at htrace
  rw [htells.latches_append hp htrace, latchLogFrom_append, latchLogFrom_append, latchLogFrom_wordsEvents _ _ _ hans]
  simp [latchLogFrom, latchOf, View.apply, Lines.set, State.view]

end Sys2Proof.Machine
end

section
/-! PROOFS. The port registers as the four port micro-operations access them (20_memory.md R51 to R53), and the probe window
of INIT (R63, R186). -/

namespace Sys2Proof.Machine

/-! ## What INIT's micro-steps do to MODE and RD -/

section InitWindow

variable {s u : State} {order : InitOrder}

/-- After an INIT micro-step SEQ is at a micro-step just when that is the next one (R112). -/
theorem afterInitStep_seq_eq_initStep_iff (k j : InitStep) (u : State) :
    (afterInitStep k u).seq = .initStep j ↔ k.next = some j := by
  unfold afterInitStep
  cases k.next <;> simp

/-- A known level after a line operation is the level driven with an ok answer, or was there before a fail (R90). -/
theorem levelAfter_eq_known {policy : FailLevelPolicy} {a : Answer} {lvl l : Level} {old : LineState}
    (h : levelAfter policy a lvl old = .known l) : (a = .ok ∧ l = lvl) ∨ (a = .fail ∧ old = .known l) := by
  cases a with
  | ok => cases h; exact .inl ⟨rfl, rfl⟩
  | fail =>
    cases policy with
    | unchanged => exact .inr ⟨rfl, h⟩
    | unknown => cases h

/-- RD_HIGH leaves RD known low only if it was and the operation failed (R98). -/
theorem rd_low_of_rdHigh (h : (lineOp .rd .high s).lines.rd = .known .low) :
    s.lines.rd = .known .low ∧ s.nextAnswer = .fail := by
  rcases levelAfter_eq_known h with ⟨-, hl⟩ | ⟨ha, hold⟩
  · cases hl
  · exact ⟨hold, ha⟩

/-- INIT makes RD known low in micro-step 12 alone, and micro-step 14 leaves it so only on a fail answer (R97, R98, R112). -/
theorem rd_low_of_exec_initOp {k : InitStep} (hu : exec (initOp order k) s = .next u)
    (hrd : u.lines.rd = .known .low) :
    k = .m12 ∨ s.lines.rd = .known .low ∧ (k = .m14 → s.nextAnswer = .fail) := by
  cases k with
  | m12 => exact .inl rfl
  | m14 =>
    cases hu
    obtain ⟨hs, ha⟩ := rd_low_of_rdHigh hrd
    exact .inr ⟨hs, fun _ => ha⟩
  | m2 =>
    cases order <;> cases hu
    · exact .inr ⟨hrd, nofun⟩
    · exact .inr ⟨(rd_low_of_rdHigh hrd).1, nofun⟩
  | m3 =>
    cases order <;> cases hu
    · exact .inr ⟨(rd_low_of_rdHigh hrd).1, nofun⟩
    · exact .inr ⟨hrd, nofun⟩
  | _ => cases hu; exact .inr ⟨hrd, nofun⟩

/-- Micro-step 9 turns the bus to input, and micro-steps 10 to 15 leave MODE alone (R63, R112). -/
theorem mode_of_exec_initOp {k j : InitStep} (hu : exec (initOp order k) s = .next u) (hn : k.next = some j)
    (hj : j ∈ [InitStep.m10, .m11, .m12, .m13, .m14, .m15, .m16]) :
    u.mode = .known (Vector.replicate busLines .input) ∨
      k ∈ [InitStep.m10, .m11, .m12, .m13, .m14, .m15, .m16] ∧ u.mode = s.mode := by
  cases k with
  | m9 => cases hu; exact .inl rfl
  | m10 | m11 | m12 | m13 | m14 | m15 => cases hu; exact .inr ⟨by decide, rfl⟩
  | m16 => cases hn
  | _ => cases hn; exact absurd hj (by decide)

end InitWindow

/-! ## The probe window (R63, R186) -/

section Window

variable {s t : State}

/-- While RD is known low the bus is input, so every pin is the environment's (R32, R186). -/
theorem ProbeWindowSafe.pin_eq_environment (h : ProbeWindowSafe s) (hrd : s.lines.rd = .known .low) (i : Fin busLines) :
    s.pin i = .environment := by
  obtain ⟨hmode, hlow⟩ := h
  obtain ⟨-, hinput, -⟩ := pinsFollowModeAndOdr s i
  rcases hlow hrd with hq | hq <;> exact hinput (hmode _ (by decide) hq)

/-- What starts outside INIT, stays there or enters it at micro-step 1, and leaves RD alone keeps the window. -/
theorem ProbeWindowSafe.of_outside_init (h : ProbeWindowSafe s) {q : SeqState} (hs : s.seq = q)
    (hq : ∀ k, q ≠ .initStep k) (ht : ∀ k, k ≠ .m1 → t.seq ≠ .initStep k) (hrd : t.lines.rd = s.lines.rd) :
    ProbeWindowSafe t := by
  refine ⟨fun k hk hseq => absurd hseq (ht k ?_), fun hlow => ?_⟩
  · rintro rfl
    exact absurd hk (by decide)
  · rcases h.2 (hrd ▸ hlow) with h13 | h14
    · exact absurd (hs.symm.trans h13) (hq _)
    · exact absurd (hs.symm.trans h14) (hq _)

/-- A micro-step of INIT keeps the window if the RD_HIGH of micro-step 14 is answered ok. -/
theorem ProbeWindowSafe.afterInitStep (h : ProbeWindowSafe s) {order : InitOrder} {k : InitStep} {u : State}
    (hq : s.seq = .initStep k) (hok : k = .m14 → s.nextAnswer = .ok) (hu : exec (initOp order k) s = .next u) :
    ProbeWindowSafe (afterInitStep k u) := by
  obtain ⟨hmode, hlow⟩ := h
  have hview := afterInitStep_view k u
  refine ⟨fun j hj hseq => ?_, fun hrd => ?_⟩
  · have hn := (afterInitStep_seq_eq_initStep_iff k j u).mp hseq
    refine (congrArg View.mode hview).trans ?_
    rcases mode_of_exec_initOp hu hn hj with hin | ⟨hk, hsame⟩
    · exact hin
    · exact hsame.trans (hmode k hk hq)
  · have hru : u.lines.rd = .known .low := (congrArg (fun v : View => v.lines.rd) hview).symm.trans hrd
    rcases rd_low_of_exec_initOp hu hru with rfl | ⟨hs, hfail⟩
    · exact .inl rfl
    · rcases hlow hs with h13 | h14
      · cases hq.symm.trans h13
        exact .inr rfl
      · cases hq.symm.trans h14
        cases (hok rfl).symm.trans (hfail rfl)

/-- Every step keeps the probe window, if the RD_HIGH of micro-step 14 is answered ok (R186). -/
theorem ProbeWindowSafe.stepTo (h : ProbeWindowSafe s) (hok : s.seq = .initStep .m14 → s.nextAnswer = .ok)
    (hst : StepTo s t) : ProbeWindowSafe t := by
  cases hst with
  | rest => exact h
  | reset => exact ⟨nofun, nofun⟩
  | initStep k u hq hu => exact h.afterInitStep hq (fun hk => hok (hk ▸ hq)) hu
  | acceptInit _ _ hi => exact h.of_outside_init hi nofun (fun k hk hseq => hk (by cases hseq; rfl)) rfl
  | acceptRelease _ _ hi => exact h.of_outside_init hi nofun (fun k _ => by simp [hi]) rfl
  | acceptSend _ _ _ _ _ hq | dispatch _ _ hq | unsupported _ hq | pull _ _ _ _ hq | pullEnd _ _ hq | word1 _ _ _ hq
  | word3 _ _ _ hq | word5 _ _ _ hq => exact h.of_outside_init hq nofun nofun rfl
  | dc _ _ hq | word2 _ _ _ hq | word4 _ _ _ hq =>
    exact h.of_outside_init hq nofun (fun _ _ => raiseOr_withSeq_seq_ne (by simp) (by simp) _ _) (by simp [Lines.set])

end Window

/-- Settles O48: the probe window is kept by every step, and while it is open the bus is input. -/
theorem probeWindowIsKept : Obligations.ProbeWindowIsKept := by
  intro s t h hok hst
  have ht : ProbeWindowSafe t := h.stepTo hok (step_inversion hst)
  exact ⟨ht, ht.pin_eq_environment⟩

/-! ## The accesses of the port registers (R51 to R53) -/

/-- Settles O7: `configureOut` writes one setting to all 16 lines, and appends its event. -/
theorem cfgOutConfiguresAllLines : Obligations.CfgOutConfiguresAllLines := by
  intro s
  exact ⟨configureOut s, Vector.replicate busLines .output, rfl, rfl, fun i => Vector.getElem_replicate i.isLt, rfl,
    ⟨Vector.replicate busLines Config.speedMax, rfl, fun i => Vector.getElem_replicate i.isLt⟩, rfl⟩

/-- Settles O8: `configureIn` writes MODE alone, and a pin whose MODE is input is the environment's (R32). -/
theorem cfgInChangesModeOnly : Obligations.CfgInChangesModeOnly := by
  intro s
  refine ⟨configureIn s, Vector.replicate busLines .input, rfl, rfl, fun i => Vector.getElem_replicate i.isLt,
    fun i => ?_, rfl⟩
  obtain ⟨-, hinput, -⟩ := pinsFollowModeAndOdr (configureIn s) i
  exact hinput rfl

/-- The sequencer issues an output-data write in two places: INIT's micro-step 6 and step 3 of a word (R110, R112). -/
theorem issued_odrWrite {order : InitOrder} {q : SeqState} {v : Word32} (h : issued order q = some (.odrWrite v)) :
    (q = .initStep .m6 ∧ v = 0#32) ∨ ∃ i w ws, q = .writing i w .d3 ws ∧ v = zext32 w := by
  cases q with
  | idle | dcSet | fetch => cases h
  | dcPending kind => cases kind <;> cases h
  | initStep k =>
    cases k with
    | m6 => cases h; exact .inl ⟨rfl, rfl⟩
    | m2 | m3 => cases order <;> cases h
    | _ => cases h
  | writing i w k ws =>
    cases k with
    | d3 => cases h; exact .inr ⟨i, w, ws, rfl, rfl⟩
    | _ => cases h

/-- Settles O9: the write replaces the register; the two values the sequencer writes are zero and a zero-extended word. -/
theorem odrWriteWritesWholeRegister : Obligations.OdrWriteWritesWholeRegister := by
  refine ⟨fun s v => rfl, fun order q v h => ?_⟩
  rcases issued_odrWrite h with ⟨-, rfl⟩ | ⟨i, w, ws, -, rfl⟩
  · decide
  · exact zext32_upper w

/-- Settles O10: `readIdr` samples the low 16 bits of the value read, which is that value modulo 2^16. -/
theorem idrReadSamplesLowHalf : Obligations.IdrReadSamplesLowHalf := by
  intro s
  refine ⟨readIdr s, s.nextIdr.extractLsb' 0 16, rfl, rfl, ?_, rfl⟩
  rw [BitVec.extractLsb'_toNat, Nat.shiftRight_zero]
  rfl

end Sys2Proof.Machine
end

section
/-! PROOFS. The encodings of BW16 (30_encoding.md): both formats decode what they encode and nothing else (R71 to R73, R78),
the header space (R82), operand assembly (R75), and the requests a step refuses (R76, R163, R180). -/

namespace Sys2Proof.Machine

/-! ## Operand assembly (R75) -/

/-- A value of even width is its upper half and its lower half, side by side. -/
theorem upper_append_lower {n : Nat} (x : BitVec (n + n)) : x.extractLsb' n n ++ x.extractLsb' 0 n = x := by
  rw [BitVec.extractLsb'_append_extractLsb'_eq_extractLsb' (Nat.zero_add n).symm, BitVec.extractLsb'_eq_self]

theorem zext32_lower (w : Word16) : (zext32 w).extractLsb' 0 16 = w :=
  Cfg.known.inj (lowHalf_zext32 w)

/-- A port value with a zero upper half is its lower half, zero-extended: nothing of it is lost in the bus word. -/
theorem zext32_of_upper_zero {v : Word32} (h : v.extractLsb' 16 16 = 0#16) : zext32 (v.extractLsb' 0 16) = v := by
  rw [zext32, BitVec.setWidth_eq_append (by decide), ← h]
  exact upper_append_lower (n := 16) v

/-- Settles O5: a wider register holds every value of a narrower one, so widening changes no number. -/
theorem operandAssemblyZeroExtends : Obligations.OperandAssemblyZeroExtends :=
  ⟨fun _ => BitVec.toNat_setWidth_of_le (by decide), fun _ => rfl,
    fun w => ⟨BitVec.toNat_setWidth_of_le (by decide), zext32_lower w, zext32_upper w⟩⟩

/-! ## Format H: the headers of the send operations (R72, R73) -/

/-- The 16 values of FMT name 16 different tags (R73). -/
theorem code_fmtOfCode : ∀ f : BitVec 4, (fmtOfCode f).code = f := by
  decide

/-- A header whose OP is a send operation's is that operation's header with the tag FMT names (R72, R73). -/
theorem header_eq_sendHeader {h : Byte} {kind : SendKind} (hop : h.extractLsb' 4 4 = kind.op) :
    h = sendHeader kind (fmtOfCode (h.extractLsb' 0 4)) := by
  rw [sendHeader, code_fmtOfCode, ← hop]
  exact (upper_append_lower (n := 4) h).symm

theorem encode_sendOf (kind : SendKind) (f : Fmt) : encode (sendOf kind f) = .header (sendHeader kind f) := by
  cases f with
  | other c => revert c; cases kind <;> decide
  | _ => cases kind <;> rfl

theorem sendOf_wellFormed (kind : SendKind) (f : Fmt) : (sendOf kind f).wellFormed = true := by
  cases kind <;> cases f <;> rfl

/-- Every send operation, whatever its tag, is in the table of the 18 (R72, R73). -/
theorem sendRow_mem (kind : SendKind) (f : Fmt) :
    ∃ c, (⟨sendOf kind f, sendHeader kind f, kind, f⟩ : SendRow) ∈ sendRows c := by
  cases f with
  | other c => exact ⟨c, by revert c; cases kind <;> decide⟩
  | _ => exact ⟨0#3, by cases kind <;> decide⟩

theorem sendRows_op (c : BitVec 3) : ∀ r ∈ sendRows c, r.op = sendOf r.kind r.fmt := by
  simp [sendRows, sendOf, sendCmdOf, sendDataOf]

/-- Both send operations with every tag decode to themselves, an unsupported tag with its number (R73). -/
theorem decode_encode_sendOf (kind : SendKind) (f : Fmt) : decode (encode (sendOf kind f)) = .ok (sendOf kind f) := by
  obtain ⟨c, hr⟩ := sendRow_mem kind f
  rw [encode_sendOf]
  exact (sendRows_header_decode c _ hr).2

/-- The send operations' headers are those from 0x10 to 0x2F (R82). -/
theorem sendHeader_range (kind : SendKind) (f : Fmt) :
    0x10 ≤ (sendHeader kind f).toNat ∧ (sendHeader kind f).toNat ≤ 0x2F := by
  obtain ⟨c, hr⟩ := sendRow_mem kind f
  exact (by decide : ∀ c, ∀ r ∈ sendRows c, 0x10 ≤ r.header.toNat ∧ r.header.toNat ≤ 0x2F) c _ hr

/-- From 0x10 to 0x2F there is no gap: OP is 1 or 2, and every FMT is a tag (R82). -/
theorem exists_sendHeader_of_range {h : Byte} (hr : 0x10 ≤ h.toNat ∧ h.toNat ≤ 0x2F) :
    ∃ kind f, h = sendHeader kind f := by
  have hop : (h.extractLsb' 4 4).toNat = h.toNat / 16 % 16 := by
    rw [BitVec.extractLsb'_toNat, Nat.shiftRight_eq_div_pow]
  obtain h1 | h2 : h.toNat / 16 % 16 = 1 ∨ h.toNat / 16 % 16 = 2 := by omega
  · exact ⟨.cmd, _, header_eq_sendHeader (BitVec.eq_of_toNat_eq (hop.trans h1))⟩
  · exact ⟨.data, _, header_eq_sendHeader (BitVec.eq_of_toNat_eq (hop.trans h2))⟩

/-! ## Format H: every header -/

/-- Which headers decode, each with its operation (R72, R82). -/
theorem decodeHeader_cases {h : Byte} {i : Instr} (hd : decodeHeader h = .ok i) :
    (h = 0x00#8 ∧ i = .init) ∨ (h = 0x30#8 ∧ i = .release) ∨ ∃ kind f, h = sendHeader kind f ∧ i = sendOf kind f := by
  have hdec := hd
  unfold decodeHeader at hdec
  split at hdec
  · split at hdec
    · cases hdec
      exact .inl ⟨header_of_init hd, rfl⟩
    · cases hdec
  · rename_i hop
    cases hdec
    exact .inr (.inr ⟨.cmd, _, header_eq_sendHeader (BitVec.eq_of_toNat_eq hop), rfl⟩)
  · rename_i hop
    cases hdec
    exact .inr (.inr ⟨.data, _, header_eq_sendHeader (BitVec.eq_of_toNat_eq hop), rfl⟩)
  · split at hdec
    · cases hdec
      exact .inr (.inl ⟨header_of_release hd, rfl⟩)
    · cases hdec
  · cases hdec

/-- A header that does not decode is rejected by name (R76). -/
theorem decodeHeader_error {h : Byte} {e : DecodeError} (hd : decodeHeader h = .error e) : e = .invalidHeader h := by
  unfold decodeHeader at hd
  split at hd
  case h_1 | h_4 => split at hd <;> cases hd; rfl
  case h_2 | h_3 => cases hd
  case h_5 => cases hd; rfl

/-- What a header decodes to is encoded as that header (R71 to R73). -/
theorem encode_of_decodeHeader {h : Byte} {i : Instr} (hd : decodeHeader h = .ok i) :
    encode i = .header h ∧ i.wellFormed = true := by
  rcases decodeHeader_cases hd with ⟨rfl, rfl⟩ | ⟨rfl, rfl⟩ | ⟨kind, f, rfl, rfl⟩
  · exact ⟨rfl, rfl⟩
  · exact ⟨rfl, rfl⟩
  · exact ⟨encode_sendOf kind f, sendOf_wellFormed kind f⟩

/-- Settles O3: a header that decodes is INIT's, RELEASE's or one of the send operations', which fill 0x10 to 0x2F. -/
theorem headerSpaceIsTotal : Obligations.HeaderSpaceIsTotal := by
  refine ⟨rfl, rfl, fun c r hr => ?_, fun h hout => ?_, fun h hin => ?_⟩
  · rw [sendRows_op c r hr]
    exact (sendRows_header_decode c r hr).2
  · cases hd : decodeHeader h with
    | error e => rw [decodeHeader_error hd]
    | ok i =>
      rcases decodeHeader_cases hd with ⟨rfl, -⟩ | ⟨rfl, -⟩ | ⟨kind, f, rfl, -⟩
      · simp at hout
      · simp at hout
      · have hrange := sendHeader_range kind f
        omega
  · obtain ⟨kind, f, rfl⟩ := exists_sendHeader_of_range hin
    obtain ⟨c, hr⟩ := sendRow_mem kind f
    exact ⟨c, _, hr, rfl⟩

/-! ## Format M (R78) -/

/-- ODR_WRITE's operand stands beside its code as it is, where its upper half is zero (R101). -/
theorem decodeMicro_odrWrite {v : Word32} (hv : v.extractLsb' 16 16 = 0#16) : decodeMicro 0xA#4 v = .ok (.odrWrite v) :=
  if_pos (beq_iff_eq.mpr hv)

/-- DRIVE_WORD's bus word stands zero-extended beside its code, and comes back whole. -/
theorem decodeMicro_driveWord (w : Word16) : decodeMicro 0xC#4 (zext32 w) = .ok (.driveWord w) := by
  have h : decodeMicro 0xC#4 (zext32 w) = .ok (.driveWord ((zext32 w).extractLsb' 0 16)) :=
    if_pos (beq_iff_eq.mpr (zext32_upper w))
  rw [h, zext32_lower]

/-- A code without an operand decodes with a zero operand only, so its operation's encoding is the word read. -/
theorem encode_of_operandless {n : Nat} {code : BitVec 4} {operand : Word32} {i j : Instr}
    (hd : (if operand == 0#32 then Except.ok i else .error (DecodeError.strayOperand code)) = .ok j)
    (hcode : code.toNat = n) (hi : encode i = .micro (BitVec.ofNat 4 n) 0#32)
    (hwf : i.wellFormed = true) : encode j = .micro code operand ∧ j.wellFormed = true := by
  obtain rfl : code = BitVec.ofNat 4 n := by rw [← hcode, BitVec.ofNat_toNat, BitVec.setWidth_eq]
  split at hd
  · rename_i hop
    cases hd
    rw [beq_iff_eq.mp hop]
    exact ⟨hi, hwf⟩
  · cases hd

/-- What a format M code decodes to is encoded as that code with that operand (R78). -/
theorem encode_of_decodeMicro {code : BitVec 4} {operand : Word32} {i : Instr} (hd : decodeMicro code operand = .ok i) :
    encode i = .micro code operand ∧ i.wellFormed = true := by
  unfold decodeMicro at hd
  extract_lets plain at hd
  split at hd
  case h_11 hcode =>
    obtain rfl : code = 0xA#4 := BitVec.eq_of_toNat_eq hcode
    split at hd
    · rename_i hupper
      cases hd
      exact ⟨rfl, hupper⟩
    · cases hd
  case h_13 hcode =>
    obtain rfl : code = 0xC#4 := BitVec.eq_of_toNat_eq hcode
    split at hd
    · rename_i hupper
      cases hd
      exact ⟨congrArg (OpWord.micro 0xC#4) (zext32_of_upper_zero (beq_iff_eq.mp hupper)), rfl⟩
    · cases hd
  case h_16 => cases hd
  all_goals
    rename_i hcode
    exact encode_of_operandless hd hcode rfl rfl

/-! ## Both formats -/

/-- Settles O2: the two formats, each by the inversion of its decoder. -/
theorem encodeOfDecodeIsIdentity : Obligations.EncodeOfDecodeIsIdentity := by
  intro w i hd
  cases w with
  | header h => exact encode_of_decodeHeader hd
  | micro code operand => exact encode_of_decodeMicro hd

/-- Settles O1: an operand is nowhere cut: an unsupported tag's is three bits of the header, ODR_WRITE's and DRIVE_WORD's
stand beside the code. -/
theorem decodeOfEncodeIsIdentity : Obligations.DecodeOfEncodeIsIdentity := by
  intro i hwf
  cases i with
  | sendCmdUnsupported c => exact decode_encode_sendOf .cmd (.other c)
  | sendDataUnsupported c => exact decode_encode_sendOf .data (.other c)
  | odrWrite v => exact decodeMicro_odrWrite (beq_iff_eq.mp hwf)
  | driveWord w => exact decodeMicro_driveWord w
  | _ => rfl

/-- Settles O4: each word is the encoding of its instruction, and code 0xF is reserved. -/
theorem writtenOutWordsDecode : Obligations.WrittenOutWordsDecode :=
  ⟨rfl, rfl, rfl, rfl, rfl, rfl, rfl, rfl, rfl, rfl, rfl⟩

/-! ## Requests a step refuses (R76, R163, R180) -/

section Misuse

variable {s : State}

theorem SeqState.isIdle_eq_false_iff (q : SeqState) : q.isIdle = false ↔ q ≠ .idle := by
  rw [Ne, ← SeqState.isIdle_iff, Bool.not_eq_true]

/-- The host's next event is due in Idle, and at any time if it does not wait. -/
theorem hostDue_of_next {e : HostEvent} {rest : HostPlan} (hx : s.inbox.next = some (e, rest))
    (hdue : s.seq = .idle ∨ e.waits = false) : hostDue s = some e := by
  rcases hdue with hq | hw
  · exact hostDue_of_idle hq hx
  · simp [hostDue, hx, hw]

/-- While an operation is in progress acceptance is refused, whatever LIFE is (R163). -/
theorem accept_of_busy (hb : s.seq ≠ .idle) (h : Byte) (needs : Lifecycle) (next : State → State) :
    accept h needs next s = .refused .busy := by
  simp [accept, (SeqState.isIdle_eq_false_iff _).mpr hb]

/-- Every operation a header selects is a host operation, so none is accepted while another is in progress (R163). -/
theorem exec_of_busy {h : Byte} {i : Instr} (hd : decodeHeader h = .ok i) (hb : s.seq ≠ .idle) :
    exec i s = .refused .busy := by
  rcases decodeHeader_cases hd with ⟨-, rfl⟩ | ⟨-, rfl⟩ | ⟨-, kind, f, -, rfl⟩
  · simp [exec, execInit, accept_of_busy hb]
  · simp [exec, execRelease, accept_of_busy hb]
  · simp [exec_sendOf, acceptSend, accept_of_busy hb]

/-- A step whose fetch rejects the request is refused for the reason given. -/
theorem step_of_reject {r : Refusal} (hf : fetchNext s = .reject r) : step s = .refused r := by
  simp [step, hf]

theorem fetchNext_of_invalid {h : Byte} {data : ElemStream} {w : Bool} {e : DecodeError}
    (hd : hostDue s = some (.op h data w)) (hh : decodeHeader h = .error e) :
    fetchNext s = .reject (.invalidHeader h) := by
  simp [fetchNext, hd, hh]

theorem fetchNext_of_op {h : Byte} {data : ElemStream} {w : Bool} {i : Instr}
    (hd : hostDue s = some (.op h data w)) (hh : decodeHeader h = .ok i) :
    fetchNext s = .run i ((s.withInbox s.inbox.rest).withOffer data) := by
  simp [fetchNext, hd, hh]

theorem fetchNext_of_reset_busy {w : Bool} (hd : hostDue s = some (.reset w)) (hb : s.seq ≠ .idle) :
    fetchNext s = .reject .resetWhileBusy := by
  simp [fetchNext, hd, (SeqState.isIdle_eq_false_iff _).mpr hb]

end Misuse

/-- Settles O16: the event is due, and the fetch rejects it or the operation it selects finds BW16 busy. -/
theorem stepRefusesMisuse : Obligations.StepRefusesMisuse := by
  intro s h data w rest
  refine ⟨fun hx hdue hh => ?_, fun hx hb ⟨i, hi⟩ => ?_, fun hx hb => ?_⟩
  · exact step_of_reject (fetchNext_of_invalid (hostDue_of_next hx hdue) hh)
  · have hf := fetchNext_of_op (hostDue_of_next hx (.inr rfl)) hi
    have hr := exec_of_busy (s := (s.withInbox s.inbox.rest).withOffer data) hi hb
    simp [step, hf, hr]
  · exact step_of_reject (fetchNext_of_reset_busy (hostDue_of_next hx (.inr rfl)) hb)

end Sys2Proof.Machine
end

section
/-! PROOFS. The line micro-operations (40_pin_microops.md R90 to R98). -/

namespace Sys2Proof.Machine

/-- Each of the eight line micro-operations is the one line operation on its line, to its level (R91 to R98). -/
theorem exec_of_mem_lineRows (s : State) {r : LineRow} (hr : r ∈ lineRows) :
    exec r.op s = .next (lineOp r.line r.level s) := by
  simp only [lineRows, List.mem_cons, List.not_mem_nil, or_false] at hr
  rcases hr with rfl | rfl | rfl | rfl | rfl | rfl | rfl | rfl <;> rfl

/-- The line driven gets the level its answer and the policy give it (R90). -/
theorem lineOp_get_same (l : LineId) (lvl : Level) (s : State) :
    (lineOp l lvl s).lines.get l = levelAfter s.params.failLevel (s.lineAnswer s.lineCount) lvl (s.lines.get l) :=
  Lines.get_set_same _ _ _

/-- Settles O6: each row is a `lineOp`, whose level is `levelAfter`'s case for the answer and the policy. -/
theorem lineOperationOutcome : Obligations.LineOperationOutcome := by
  intro s r hr
  refine ⟨lineOp r.line r.level s, exec_of_mem_lineRows s hr, fun hok => ?_, fun hfail hpolicy => ?_,
    fun hfail hpolicy => ?_, fun l hl => lineOp_get_other _ _ _ hl, rfl⟩
  · rw [lineOp_get_same, hok, levelAfter_ok]
  · rw [lineOp_get_same, hfail, hpolicy, levelAfter_unchanged]
  · rw [lineOp_get_same, hfail, hpolicy, levelAfter_unknown]

end Sys2Proof.Machine
end

section
/-! PROOFS. The Bus Writer (41_bus_writer.md): DRIVE_WORD as one action and as the sequencer's micro-steps (R110, R118), INIT
from acceptance to return (R112, R113, R117), and RELEASE (R115). -/

namespace Sys2Proof.Machine

/-! ## INIT and RELEASE are accepted (R112, R115, R162) -/

/-- In Idle and in the LIFE it needs, a host operation is accepted (R162, R163). -/
theorem accept_of_idle {s : State} {needs : Lifecycle} (hl : s.life = needs) (hq : s.seq = .idle) (h : Byte)
    (next : State → State) :
    accept h needs next s = .next (next ((s.emit (.accept h)).withOffer ElemStream.empty)) := by
  simp [accept, hl, hq, SeqState.isIdle]

/-- Settles O13: acceptance begins INIT at micro-step 1. -/
theorem initIsAccepted : Obligations.InitIsAccepted := by
  intro s hl hq
  rw [exec, execInit, accept_of_idle hl hq]
  rfl

/-- Settles O14: acceptance ends the operation at once, in Released. -/
theorem releaseEndsTheInstance : Obligations.ReleaseEndsTheInstance := by
  intro s hl hq
  rw [exec, execRelease, accept_of_idle hl hq]
  simp [hq, State.withLife, State.withOffer, State.emit]

/-! ## What the steps of a word do (R110) -/

/-- Two states that agree in the trace agree if they do in all else. -/
theorem State.eq_of_trace {s t : State} (h : s = { t with trace := s.trace }) (ht : s.trace = t.trace) : s = t := by
  rw [h, ht]

/-- Parts appended to a trace one after another are appended as one list. -/
theorem foldl_append_flatten (T : List Event) (parts : List (List Event)) :
    parts.foldl (· ++ ·) T = T ++ parts.flatten :=
  (List.foldl_append_eq_append (f := id)).trans (by rw [List.map_id])

section Word

variable (s : State) (w : Word16)

/-- `s` after steps 1 and 2 of a word: CS_LOW and WR_LOW (R110). -/
def State.wordLow : State := lineOp .wr .low (lineOp .cs .low s)

/-- `s` after steps 1 to 4 of a word: ODR written and WR_HIGH done too. -/
def State.wordWritten : State := lineOp .wr .high (writeOdr (zext32 w) s.wordLow)

/-- `s` after all five steps of a word. -/
def State.wordDone : State := lineOp .cs .high (s.wordWritten w)

theorem State.wordLow_eq :
    s.wordLow = { s with
      lines := ⟨s.lines.dc, lineAfter s.params.failLevel s.lines.wr [(.low, s.ans 1)],
        lineAfter s.params.failLevel s.lines.cs [(.low, s.ans 0)], s.lines.rd⟩
      lineCount := s.lineCount + 2
      trace := s.trace ++ [.lineOp .cs .low (s.ans 0), .lineOp .wr .low (s.ans 1)] } :=
  State.eq_of_trace rfl (foldl_append_flatten _ [[_], [_]])

theorem State.wordWritten_eq :
    s.wordWritten w = { s with
      lines := ⟨s.lines.dc, lineAfter s.params.failLevel s.lines.wr [(.low, s.ans 1), (.high, s.ans 2)],
        lineAfter s.params.failLevel s.lines.cs [(.low, s.ans 0)], s.lines.rd⟩
      odr := .known (zext32 w)
      lineCount := s.lineCount + 3
      trace := s.trace ++ [.lineOp .cs .low (s.ans 0), .lineOp .wr .low (s.ans 1), .odrWrite (zext32 w),
        .lineOp .wr .high (s.ans 2)] } :=
  State.eq_of_trace rfl (foldl_append_flatten _ [[_], [_], [_], [_]])

theorem State.wordDone_eq :
    s.wordDone w = { s with
      lines := ⟨s.lines.dc, lineAfter s.params.failLevel s.lines.wr [(.low, s.ans 1), (.high, s.ans 2)],
        lineAfter s.params.failLevel s.lines.cs [(.low, s.ans 0), (.high, s.ans 3)], s.lines.rd⟩
      odr := .known (zext32 w)
      lineCount := s.lineCount + 4
      trace := s.trace ++ wordEvents (s.ans 0) (s.ans 1) (s.ans 2) (s.ans 3) w } :=
  State.eq_of_trace rfl (foldl_append_flatten _ [[_], [_], [_], [_], [_]])

end Word

section DriveWord

variable {s : State} (w : Word16)

/-- A failed WR_LOW ends the word after its second step (R110 case (c)). -/
theorem driveWord_of_wrLow_fail (h1 : s.ans 1 = .fail) : driveWord w s = (.err .busWriteError, s.wordLow) := by
  have h : (lineOp .cs .low s).nextAnswer = .fail := h1
  simp [driveWord, h, State.wordLow]

/-- A failed WR_HIGH ends the word after its fourth step (R110 case (d)). -/
theorem driveWord_of_wrHigh_fail (h1 : s.ans 1 = .ok) (h2 : s.ans 2 = .fail) :
    driveWord w s = (.err .busWriteError, s.wordWritten w) := by
  have h : (lineOp .cs .low s).nextAnswer = .ok := h1
  have h' : (writeOdr (zext32 w) (lineOp .wr .low (lineOp .cs .low s))).nextAnswer = .fail := h2
  simp [driveWord, h, h', State.wordWritten, State.wordLow]

/-- With both WR operations answered ok all five steps run (R110 cases (a), (b), (e)). -/
theorem driveWord_of_wr_ok (h1 : s.ans 1 = .ok) (h2 : s.ans 2 = .ok) : driveWord w s = (.ok, s.wordDone w) := by
  have h : (lineOp .cs .low s).nextAnswer = .ok := h1
  have h' : (writeOdr (zext32 w) (lineOp .wr .low (lineOp .cs .low s))).nextAnswer = .ok := h2
  simp [driveWord, h, h', State.wordDone, State.wordWritten, State.wordLow]

/-- The three ways a word ends: cut off by its WR_LOW, by its WR_HIGH, or not at all (R118). -/
theorem driveWord_cases (s : State) :
    (s.ans 1 = .fail ∧ driveWord w s = (.err .busWriteError, s.wordLow)) ∨
    (s.ans 1 = .ok ∧ s.ans 2 = .fail ∧ driveWord w s = (.err .busWriteError, s.wordWritten w)) ∨
    (s.ans 1 = .ok ∧ s.ans 2 = .ok ∧ driveWord w s = (.ok, s.wordDone w)) := by
  cases h1 : s.ans 1 with
  | fail => exact .inl ⟨rfl, driveWord_of_wrLow_fail w h1⟩
  | ok =>
    cases h2 : s.ans 2 with
    | fail => exact .inr (.inl ⟨rfl, rfl, driveWord_of_wrHigh_fail w h1 h2⟩)
    | ok => exact .inr (.inr ⟨rfl, rfl, driveWord_of_wr_ok w h1 h2⟩)

/-- The events of a word are its first 2, 4 or 5 (R118). -/
theorem driveWord_trace (s : State) :
    (driveWord w s).2.trace = s.trace ++
      (wordEvents (s.ans 0) (s.ans 1) (s.ans 2) (s.ans 3) w).take (wordStepCount (s.ans 1) (s.ans 2)) := by
  rcases driveWord_cases w s with ⟨h1, hd⟩ | ⟨h1, h2, hd⟩ | ⟨h1, h2, hd⟩
  · rw [hd, State.wordLow_eq, h1]; rfl
  · rw [hd, State.wordWritten_eq, h1, h2]; rfl
  · rw [hd, State.wordDone_eq, h1, h2]; rfl

theorem driveWord_seq (s : State) : (driveWord w s).2.seq = s.seq := by
  rcases driveWord_cases w s with ⟨-, hd⟩ | ⟨-, -, hd⟩ | ⟨-, -, hd⟩ <;> rw [hd] <;> rfl

/-- A failed WR operation is the word's result (R110, R153). -/
theorem driveWord_fst_of_fail (h : s.ans 1 = .fail ∨ s.ans 2 = .fail) : (driveWord w s).1 = .err .busWriteError := by
  rcases driveWord_cases w s with ⟨-, hd⟩ | ⟨-, -, hd⟩ | ⟨h1, h2, -⟩
  · rw [hd]
  · rw [hd]
  · simp [h1, h2] at h

theorem exec_driveWord (hl : s.life = .ready) :
    exec (.driveWord w) s = .next (wordReturn (driveWord w s).1 (driveWord w s).2) := by
  simp [exec, execDriveWord, hl]

/-- Outside a send operation the word's result goes to nobody. -/
theorem exec_driveWord_of_idle (hl : s.life = .ready) (hq : s.seq = .idle) :
    exec (.driveWord w) s = .next (driveWord w s).2 := by
  rw [exec_driveWord w hl, wordReturn, driveWord_seq, hq]

end DriveWord

/-- Settles O21: the state after each of the three ways a word ends. -/
theorem driveWordForEveryAnswer : Obligations.DriveWordForEveryAnswer := by
  intro s w hl hq
  rw [exec_driveWord_of_idle w hl hq]
  refine ⟨fun h1 => ?_, fun h1 h2 => ?_, fun h1 h2 => ?_⟩
  · rw [driveWord_of_wrLow_fail w h1, State.wordLow_eq, h1]; rfl
  · rw [driveWord_of_wrHigh_fail w h1 h2, State.wordWritten_eq, h1, h2]; rfl
  · rw [driveWord_of_wr_ok w h1 h2, State.wordDone_eq, h1, h2]; rfl

/-- Settles O20: the case of O21 in which both WR operations are answered ok, with CS answered ok too. -/
theorem driveWordWithAllAnswersOk : Obligations.DriveWordWithAllAnswersOk := by
  intro s w hl hq h0 h1 h2 h3
  obtain ⟨-, -, hok⟩ := driveWordForEveryAnswer s w hl hq
  rw [hok h1 h2, h0, h3]
  rfl

/-! ## The sequencer's steps of a word (R34, R110) -/

/-- A step of a running operation, from a state given up to the place of SEQ. -/
theorem step_withSeq {i : Instr} {q : SeqState} (u : State) {v : State} (hw : u.hostWaits = true)
    (hi : issued u.params.initOrder q = some i) (hx : exec i (u.withSeq q) = .next v) :
    step (u.withSeq q) = .next (advance q u.nextAnswer v) :=
  step_of_seq (s := u.withSeq q) hw rfl hi hx

theorem runSteps_one {s t : State} (h : step s = .next t) : runSteps 1 s = .next t :=
  runSteps_succ h

section WordSteps

variable {s : State} {i : Nat} {w : Word16} {k : WordStep} {ws : WordSeq}

/-- A raise brings SEQ to Idle, and without one it is moved: where it stood before makes no difference. -/
theorem raiseOr_withSeq_withSeq (e : Option Err) (q q' : SeqState) (s : State) :
    raiseOr e (fun t => t.withSeq q) (s.withSeq q') = raiseOr e (fun t => t.withSeq q) s := by
  cases e <;> rfl

/-- Step 1 of a word: CS_LOW, its answer swallowed. -/
theorem step_word1 (hw : s.hostWaits = true) (hq : s.seq = .writing i w .d1 ws) :
    step s = .next ((lineOp .cs .low s).withSeq (.writing i w .d2 ws)) := by
  rw [step_of_seq hw hq rfl rfl, advance, afterWordStep, raised_cs, raiseOr_none]

/-- Step 5 of a word: CS_HIGH, its answer swallowed. -/
theorem step_word5 (hw : s.hostWaits = true) (hq : s.seq = .writing i w .d5 ws) :
    step s = .next ((lineOp .cs .high s).withSeq (.fetch (i + 1) ws)) := by
  rw [step_of_seq hw hq rfl rfl, advance, afterWordStep, raised_cs, raiseOr_none]

/-- Steps 1 and 2 of a word, and the raise of a failed WR_LOW. -/
theorem runSteps_wordLow (hw : s.hostWaits = true) (hq : s.seq = .writing i w .d1 ws) :
    runSteps 2 s = .next (raiseOr (raised .wr (s.ans 1)) (fun t => t.withSeq (.writing i w .d3 ws)) s.wordLow) := by
  rw [runSteps_succ (step_word1 hw hq), runSteps_one (step_withSeq (lineOp .cs .low s) hw rfl rfl)]
  exact congrArg Host.Outcome.next (raiseOr_withSeq_withSeq _ _ _ s.wordLow)

/-- Steps 3 and 4 follow a WR_LOW answered ok; then the raise of a failed WR_HIGH. -/
theorem runSteps_wordWritten (hw : s.hostWaits = true) (hq : s.seq = .writing i w .d1 ws) (h1 : s.ans 1 = .ok) :
    runSteps 4 s =
      .next (raiseOr (raised .wr (s.ans 2)) (fun t => t.withSeq (.writing i w .d5 ws)) (s.wordWritten w)) := by
  have hlow : runSteps 2 s = .next (s.wordLow.withSeq (.writing i w .d3 ws)) := by
    rw [runSteps_wordLow hw hq, h1]
    rfl
  have h3 : step (s.wordLow.withSeq (.writing i w .d3 ws)) =
      .next ((writeOdr (zext32 w) s.wordLow).withSeq (.writing i w .d4 ws)) := by
    rw [step_withSeq s.wordLow hw rfl rfl]
    rfl
  rw [runSteps_add (m := 2) hlow, runSteps_succ h3,
    runSteps_one (step_withSeq (writeOdr (zext32 w) s.wordLow) hw rfl rfl)]
  exact congrArg Host.Outcome.next (raiseOr_withSeq_withSeq _ _ _ (s.wordWritten w))

/-- Step 5 follows a WR_HIGH answered ok. -/
theorem runSteps_wordDone (hw : s.hostWaits = true) (hq : s.seq = .writing i w .d1 ws) (h1 : s.ans 1 = .ok)
    (h2 : s.ans 2 = .ok) : runSteps 5 s = .next ((s.wordDone w).withSeq (.fetch (i + 1) ws)) := by
  have hwritten : runSteps 4 s = .next ((s.wordWritten w).withSeq (.writing i w .d5 ws)) := by
    rw [runSteps_wordWritten hw hq h1, h2]
    rfl
  rw [runSteps_add (m := 1) hwritten]
  exact runSteps_one (step_word5 (s := (s.wordWritten w).withSeq _) hw rfl)

theorem wordReturn_ok (hq : s.seq = .writing i w k ws) : wordReturn .ok s = s.withSeq (.fetch (i + 1) ws) := by
  simp only [wordReturn, hq]

theorem wordReturn_err (hq : s.seq = .writing i w k ws) (e : Err) : wordReturn (.err e) s = raise e s := by
  simp only [wordReturn, hq]

/-- The sequencer's steps of a word leave the machine where the word as one action leaves it. -/
theorem runSteps_word (hw : s.hostWaits = true) (hq : s.seq = .writing i w .d1 ws) :
    runSteps (wordStepCount (s.ans 1) (s.ans 2)) s = .next (wordReturn (driveWord w s).1 (driveWord w s).2) := by
  have hseq : (driveWord w s).2.seq = .writing i w .d1 ws := (driveWord_seq w s).trans hq
  rcases driveWord_cases w s with ⟨h1, hd⟩ | ⟨h1, h2, hd⟩ | ⟨h1, h2, hd⟩
  · rw [hd] at hseq ⊢
    rw [wordReturn_err hseq, h1, wordStepCount, runSteps_wordLow hw hq, h1]
    rfl
  · rw [hd] at hseq ⊢
    rw [wordReturn_err hseq, h1, h2, wordStepCount, runSteps_wordWritten hw hq h1, h2]
    rfl
  · rw [hd] at hseq ⊢
    rw [wordReturn_ok hseq, h1, h2, wordStepCount, runSteps_wordDone hw hq h1 h2]

end WordSteps

/-- Settles O23: a word in Ready is its five side effects and the return of its result, and so are its steps. -/
theorem driveWordIsItsMicroSteps : Obligations.DriveWordIsItsMicroSteps := by
  intro s i w ws hl hw hq
  rw [runSteps_word hw hq, exec_driveWord w hl]

/-- Settles O22: the events of the word as one action, by itself and as the sequencer's steps, whose error adds the result. -/
theorem driveWordEventsInOrder : Obligations.DriveWordEventsInOrder := by
  refine ⟨fun s w hl hq => ⟨_, exec_driveWord_of_idle w hl hq, driveWord_trace w s⟩, fun s i w ws hw hq => ?_⟩
  have hseq : (driveWord w s).2.seq = .writing i w .d1 ws := (driveWord_seq w s).trans hq
  have htrace := driveWord_trace w s
  refine ⟨_, runSteps_word hw hq, fun h1 h2 => ?_, fun hfail => ?_⟩
  · rw [driveWord_of_wr_ok w h1 h2] at hseq htrace ⊢
    rw [wordReturn_ok hseq]
    rw [h1, h2] at htrace
    exact ⟨rfl, htrace⟩
  · rw [driveWord_fst_of_fail w hfail, wordReturn_err hseq]
    exact ⟨rfl, congrArg (· ++ _) htrace⟩

/-! ## The micro-steps of INIT (R112) -/

/-- A micro-operation leaves SEQ to the sequencer. -/
theorem PinAction.seq {s u : State} (hu : PinAction s u) : u.seq = s.seq := by
  cases hu <;> rfl

/-- Settles O26: the micro-operation's effect is pin-side, and what follows it looks at no answer. -/
theorem initMicroStepsDiscardAnswers : Obligations.InitMicroStepsDiscardAnswers := by
  intro s k hw hq
  obtain ⟨u, hu, hpin⟩ := exec_initOp_pinAction s.params.initOrder k s
  have hstep : step s = .next (afterInitStep k u) := step_of_seq hw hq rfl hu
  refine ⟨u, hu, hpin.seq, hpin.life, fun k' hk => ?_, fun hk => ?_⟩ <;>
    · rw [hstep, afterInitStep, hk]
      rfl

section InitSteps

variable (order : InitOrder) (u : State)

/-- `u` after micro-steps 1 to 3 of INIT: the port output, DC driven low and RD high (R112). -/
def State.initOpened : State :=
  match order with
  | .dcFirst => lineOp .rd .high (lineOp .dc .low (configureOut u))
  | .rdFirst => lineOp .dc .low (lineOp .rd .high (configureOut u))

/-- `u` after micro-steps 9 to 16 of INIT: the probe, and the port output again. -/
def State.initProbed : State :=
  configureOut (lineOp .cs .high (lineOp .rd .high (readIdr (lineOp .rd .low (lineOp .dc .high
    (lineOp .cs .low (configureIn u)))))))

/-- Which line operation of INIT, counted from 0, drives DC low (D10). -/
def InitOrder.dcAt : InitOrder → Nat
  | .dcFirst => 0
  | .rdFirst => 1

/-- Which line operation of INIT first drives RD high (D10). -/
def InitOrder.rdAt : InitOrder → Nat
  | .dcFirst => 1
  | .rdFirst => 0

/-- The events of micro-steps 2 and 3 of INIT (D10). -/
def InitOrder.levelEvents (ans : Nat → Answer) : InitOrder → List Event
  | .dcFirst => [.lineOp .dc .low (ans 0), .lineOp .rd .high (ans 1)]
  | .rdFirst => [.lineOp .rd .high (ans 0), .lineOp .dc .low (ans 1)]

theorem State.initOpened_eq :
    u.initOpened order = { u with
      lines := ⟨lineAfter u.params.failLevel u.lines.dc [(.low, u.ans order.dcAt)], u.lines.wr, u.lines.cs,
        lineAfter u.params.failLevel u.lines.rd [(.high, u.ans order.rdAt)]⟩
      mode := .known (Vector.replicate busLines .output)
      pull := .known Config.pullAlt
      speed := .known (Vector.replicate busLines Config.speedMax)
      lineCount := u.lineCount + 2
      trace := u.trace ++ ([.cfgOut] ++ order.levelEvents u.ans) } := by
  cases order <;> exact State.eq_of_trace rfl (foldl_append_flatten _ [[_], [_], [_]])

theorem State.initProbed_eq :
    u.initProbed = { u with
      lines := ⟨lineAfter u.params.failLevel u.lines.dc [(.high, u.ans 1)], u.lines.wr,
        lineAfter u.params.failLevel u.lines.cs [(.low, u.ans 0), (.high, u.ans 4)],
        lineAfter u.params.failLevel u.lines.rd [(.low, u.ans 2), (.high, u.ans 3)]⟩
      mode := .known (Vector.replicate busLines .output)
      pull := .known Config.pullAlt
      speed := .known (Vector.replicate busLines Config.speedMax)
      idSample := .known (u.nextIdr.extractLsb' 0 16)
      lineCount := u.lineCount + 5
      idrCount := u.idrCount + 1
      trace := u.trace ++ [.cfgIn, .lineOp .cs .low (u.ans 0), .lineOp .dc .high (u.ans 1), .lineOp .rd .low (u.ans 2),
        .idrRead u.nextIdr, .lineOp .rd .high (u.ans 3), .lineOp .cs .high (u.ans 4), .cfgOut] } :=
  State.eq_of_trace rfl (foldl_append_flatten _ [[_], [_], [_], [_], [_], [_], [_], [_]])

end InitSteps

/-- One micro-step of INIT, from a state given up to the place of SEQ: the operation's effect, and SEQ at the next (R112). -/
theorem runSteps_initStep {u : State} {order : InitOrder} {k k' : InitStep} {n : Nat} (f : State → State)
    (hw : u.hostWaits = true) (ho : u.params.initOrder = order) (hk : k.next = some k')
    (hx : exec (initOp order k) (u.withSeq (.initStep k)) = .next ((f u).withSeq (.initStep k))) :
    runSteps (n + 1) (u.withSeq (.initStep k)) = runSteps n ((f u).withSeq (.initStep k')) := by
  subst ho
  rw [runSteps_succ (step_withSeq u hw rfl hx), advance, afterInitStep, hk]
  rfl

/-- The last micro-step of INIT, and INIT's end (R112). -/
theorem runSteps_initLast {u : State} (hw : u.hostWaits = true) :
    runSteps 1 (u.withSeq (.initStep .m16)) = .next (finish .ok ((configureOut u).withLife .ready)) := by
  rw [runSteps_one (step_withSeq u hw rfl rfl)]
  rfl

section InitRun

variable {u : State} (hw : u.hostWaits = true)
include hw

/-- Micro-steps 1 to 3: output, and the levels of DC and RD in either order. -/
theorem runSteps_initOpened :
    runSteps 3 (u.withSeq (.initStep .m1)) = .next ((u.initOpened u.params.initOrder).withSeq (.initStep .m4)) := by
  refine Eq.trans (runSteps_initStep configureOut hw rfl rfl rfl) ?_
  cases ho : u.params.initOrder with
  | dcFirst =>
    refine Eq.trans (runSteps_initStep (lineOp .dc .low) hw ho rfl rfl) ?_
    exact Eq.trans (runSteps_initStep (lineOp .rd .high) hw ho rfl rfl) (runSteps_zero _)
  | rdFirst =>
    refine Eq.trans (runSteps_initStep (lineOp .rd .high) hw ho rfl rfl) ?_
    exact Eq.trans (runSteps_initStep (lineOp .dc .low) hw ho rfl rfl) (runSteps_zero _)

/-- Micro-steps 4 to 8: the framing of a zero word, "as in `driveWord`", but for the answers. -/
theorem runSteps_initZeroWord :
    runSteps 5 (u.withSeq (.initStep .m4)) = .next ((u.wordDone 0#16).withSeq (.initStep .m9)) := by
  refine Eq.trans (runSteps_initStep (lineOp .cs .low) hw rfl rfl rfl) ?_
  refine Eq.trans (runSteps_initStep (lineOp .wr .low) hw rfl rfl rfl) ?_
  refine Eq.trans (runSteps_initStep (writeOdr (zext32 0#16)) hw rfl rfl rfl) ?_
  refine Eq.trans (runSteps_initStep (lineOp .wr .high) hw rfl rfl rfl) ?_
  exact Eq.trans (runSteps_initStep (lineOp .cs .high) hw rfl rfl rfl) (runSteps_zero _)

/-- Micro-steps 9 to 16: the probe, the second output, and INIT's end. -/
theorem runSteps_initProbed :
    runSteps 8 (u.withSeq (.initStep .m9)) = .next (finish .ok (u.initProbed.withLife .ready)) := by
  refine Eq.trans (runSteps_initStep configureIn hw rfl rfl rfl) ?_
  refine Eq.trans (runSteps_initStep (lineOp .cs .low) hw rfl rfl rfl) ?_
  refine Eq.trans (runSteps_initStep (lineOp .dc .high) hw rfl rfl rfl) ?_
  refine Eq.trans (runSteps_initStep (lineOp .rd .low) hw rfl rfl rfl) ?_
  refine Eq.trans (runSteps_initStep readIdr hw rfl rfl rfl) ?_
  refine Eq.trans (runSteps_initStep (lineOp .rd .high) hw rfl rfl rfl) ?_
  refine Eq.trans (runSteps_initStep (lineOp .cs .high) hw rfl rfl rfl) ?_
  exact runSteps_initLast hw

end InitRun

/-! ## INIT from acceptance to return (R112, R113, R117) -/

section Init

variable (s : State) (rest : HostPlan)

/-- `s` right after the acceptance of INIT, the plan moved on to `rest` (R112). -/
def State.initAccepted : State :=
  { s with
    inbox := rest, offer := ElemStream.empty, seq := .initStep .m1, trace := s.trace ++ [.accept 0x00#8] }

/-- The 18 events of an INIT in either order of micro-steps 2 and 3, in the parts R117 speaks of: the first output, the zero
word, the input, the way to the probe, its window with the read inside, and the second output (R112). -/
def initParts (order : InitOrder) (ans : Nat → Answer) (v : Word32) : List (List Event) :=
  [[.accept 0x00#8, .cfgOut], order.levelEvents ans ++ wordEvents (ans 2) (ans 3) (ans 4) (ans 5) 0#16, [.cfgIn],
    [.lineOp .cs .low (ans 6), .lineOp .dc .high (ans 7)], [.lineOp .rd .low (ans 8)], [.idrRead v],
    [.lineOp .rd .high (ans 9)], [.lineOp .cs .high (ans 10)], [.cfgOut], [.ret .ok]]

/-- `s` right after an INIT, the plan moved on to `rest`: every answer shows in the levels and the trace alone (R112). -/
def State.initDone : State :=
  { s with
    lines := ⟨lineAfter s.params.failLevel s.lines.dc [(.low, s.ans s.params.initOrder.dcAt), (.high, s.ans 7)],
      lineAfter s.params.failLevel s.lines.wr [(.low, s.ans 3), (.high, s.ans 4)],
      lineAfter s.params.failLevel s.lines.cs [(.low, s.ans 2), (.high, s.ans 5), (.low, s.ans 6), (.high, s.ans 10)],
      lineAfter s.params.failLevel s.lines.rd
        [(.high, s.ans s.params.initOrder.rdAt), (.low, s.ans 8), (.high, s.ans 9)]⟩
    mode := .known (Vector.replicate busLines .output)
    pull := .known Config.pullAlt
    speed := .known (Vector.replicate busLines Config.speedMax)
    odr := .known 0#32
    idSample := .known (s.nextIdr.extractLsb' 0 16)
    life := .ready
    seq := .idle
    trace := s.trace ++ (initParts s.params.initOrder s.ans s.nextIdr).flatten
    lineCount := s.lineCount + 11
    idrCount := s.idrCount + 1
    offer := ElemStream.empty
    inbox := rest }

/-- The parts of INIT, one after another, make of an accepted INIT the finished one; the events of micro-steps 2 and 3 are
spelled out by the order (D10). -/
theorem finish_initProbed_eq_initDone :
    finish .ok (((((s.initAccepted rest).initOpened s.params.initOrder).wordDone 0#16).initProbed).withLife .ready) =
      s.initDone rest := by
  rw [State.initOpened_eq, State.wordDone_eq, State.initProbed_eq]
  refine State.eq_of_trace rfl (Eq.trans (foldl_append_flatten s.trace [[_], _, _, _, [_]]) ?_)
  rw [State.initDone]
  cases s.params.initOrder <;> rfl

end Init

section InitWhole

variable {s : State} {data : ElemStream} {w : Bool} {rest : HostPlan}

/-- INIT asked for in Uninit and Idle is accepted (R112). -/
theorem step_acceptInit (hl : s.life = .uninit) (hq : s.seq = .idle)
    (hx : s.inbox.next = some (.op 0x00#8 data w, rest)) : step s = .next (s.initAccepted rest) := by
  rw [step_of_run_idle (fetchNext_of_request hq hx rfl) hq]
  exact initIsAccepted _ hl hq

/-- A whole INIT in either order of micro-steps 2 and 3 (R112): acceptance and the 16 micro-steps. -/
theorem runSteps_init (hl : s.life = .uninit) (hq : s.seq = .idle)
    (hx : s.inbox.next = some (.op 0x00#8 data w, rest)) (hr : rest.waits = true) :
    runSteps 17 s = .next (s.initDone rest) := by
  have hw3 : ((s.initAccepted rest).initOpened s.params.initOrder).hostWaits = true := by
    rw [State.initOpened_eq]
    exact hr
  have h3 := runSteps_initOpened (u := s.initAccepted rest) hr
  have h8 := (runSteps_add (m := 5) h3).trans (runSteps_initZeroWord hw3)
  have h16 := (runSteps_add (m := 8) h8).trans (runSteps_initProbed hw3)
  rw [runSteps_succ (step_acceptInit hl hq hx)]
  exact h16.trans (congrArg Host.Outcome.next (finish_initProbed_eq_initDone s rest))

end InitWhole

/-- Settles O36: the finished INIT with DC_LOW first. -/
theorem initRunsAllSixteenMicroSteps : Obligations.InitRunsAllSixteenMicroSteps := by
  intro s data w rest hl hq hx hr ho
  rw [runSteps_init hl hq hx hr, State.initDone, ho, hq]
  rfl

/-- Settles O37: the last operation of each line drove it high, whatever the one before it left. -/
theorem initWithAllAnswersOkLeavesLinesHigh : Obligations.InitWithAllAnswersOkLeavesLinesHigh := by
  intro s data w rest hl hq hx hr hok
  have hlines : ∀ l, (s.initDone rest).lines.get l = .known .high := by
    have h4 := hok 4 (by decide)
    have h7 := hok 7 (by decide)
    have h9 := hok 9 (by decide)
    have h10 := hok 10 (by decide)
    intro l
    cases l <;> simp [State.initDone, Lines.get, h4, h7, h9, h10]
  have hpin : ∀ i, (s.initDone rest).pin i = .driven false := by
    intro i
    obtain ⟨-, -, -, hdriven⟩ := pinsFollowModeAndOdr (s.initDone rest) i
    rw [hdriven 0#32 rfl rfl, BitVec.getLsbD_zero]
  exact ⟨_, runSteps_init hl hq hx hr, hlines, rfl, rfl, rfl, rfl, rfl, rfl, rfl, hpin⟩

/-- Settles O38: the parts the trace of INIT is made of. -/
theorem initShape : Obligations.InitShape := by
  intro s data w rest hl hq hx hr
  refine ⟨s.initDone rest, _, _, _, _, runSteps_init hl hq hx hr,
    (foldl_append_flatten s.trace (initParts s.params.initOrder s.ans s.nextIdr)).symm, rfl, ?_⟩
  cases s.params.initOrder <;> simp [InitOrder.levelEvents, wordEvents]

end Sys2Proof.Machine
end

section
/-! PROOFS. The Data-Format Adapter (42_data_format_adapter.md): the send operations' acceptance (R130, R131), the dispatch and
one turn of the loop (R132, R133), the transitions (R134), and whole send operations, with and without failures (R135 to
R139). -/

namespace Sys2Proof.Machine

/-! ## Acceptance, dispatch and one turn of the loop (R130 to R133) -/

/-- Settles O12: every row is the acceptance of its kind and tag, under its header. -/
theorem sendOperationsAreAccepted : Obligations.SendOperationsAreAccepted := by
  intro s c hl hq r hr
  rw [sendRows_op c r hr, (sendRows_header_decode c r hr).1, exec_sendOf, acceptSend, accept_of_idle hl hq]
  rfl

section InnerOperations

variable {s : State}

theorem exec_writePayload_supported {p : Payload} {wd : ElemWidth} (hq : s.seq = .dcSet p) (hf : widthOf p.fmt = some wd) :
    exec .writePayload s = .next { s with seq := .fetch 0 ⟨wd, p.data⟩ } := by
  simp [exec, execWritePayload, hq, hf, State.withSeq]

theorem exec_writePayload_unsupported {p : Payload} (hq : s.seq = .dcSet p) (hf : widthOf p.fmt = none) :
    exec .writePayload s = .next { s with seq := .idle, trace := s.trace ++ [.ret (.err .unsupportedFormat)] } := by
  simp [exec, execWritePayload, hq, hf]

/-- The next element of a word sequence is its payload's next lane, as wide as the tag says (R60, R74). -/
theorem WordSeq.next_of_some {wd : ElemWidth} {d d' : ElemStream} {x : Word16} (h : d.next = some (x, d')) :
    (⟨wd, d⟩ : WordSeq).next = some (elemOf wd x, ⟨wd, d'⟩) := by
  simp [WordSeq.next, h]

theorem WordSeq.next_of_none {wd : ElemWidth} {d : ElemStream} (h : d.next = none) : (⟨wd, d⟩ : WordSeq).next = none := by
  simp [WordSeq.next, h]

variable {i : Nat} {wd : ElemWidth} {d d' : ElemStream} {x : Word16}

theorem exec_writeSequence_elem (hq : s.seq = .fetch i ⟨wd, d⟩) (hn : d.next = some (x, d')) :
    exec .writeSequence s = .next { s with
      seq := .writing i (wordOf (elemOf wd x)) .d1 ⟨wd, d'⟩, trace := s.trace ++ [.pull i (.elem (elemOf wd x))] } := by
  simp [exec, execWriteSequence, hq, WordSeq.next_of_some hn, State.emit, State.withSeq]

theorem exec_writeSequence_ended (hq : s.seq = .fetch i ⟨wd, d⟩) (hn : d.next = none) :
    exec .writeSequence s = .next { s with seq := .idle, trace := s.trace ++ [.pull i .ended, .ret .ok] } := by
  simp [exec, execWriteSequence, hq, WordSeq.next_of_none hn, State.emit]

end InnerOperations

/-- Settles O17: the class of the tag decides, whatever its byte order and whether buffer or lazy. -/
theorem writePayloadDispatches : Obligations.WritePayloadDispatches := by
  refine fun s d => ⟨fun f hf hq => ?_, fun f hf hq => ?_, fun c hq => exec_writePayload_unsupported hq rfl⟩
  · have hwidth : ∀ f ∈ [Fmt.u8, .u8Iter], widthOf f = some .byte := by decide
    exact exec_writePayload_supported hq (hwidth f hf)
  · have hwidth : ∀ f ∈ [Fmt.u16, .u16be, .u16le, .u16Iter, .u16beIter, .u16leIter], widthOf f = some .word := by decide
    exact exec_writePayload_supported hq (hwidth f hf)

/-- Settles O18: a written-out element, the first of a cycle's next round, a lazy one, or the end. -/
theorem writeSequencePullsInOrder : Obligations.WriteSequencePullsInOrder := by
  refine fun s i x xs tl => ⟨fun hq => exec_writeSequence_elem hq rfl, fun hq => exec_writeSequence_elem hq rfl,
    fun wd hq => exec_writeSequence_elem hq rfl, fun wd id k hq => ?_, fun wd hq => exec_writeSequence_ended hq rfl⟩
  cases hlazy : Config.lazyElem id k with
  | none =>
    exact ⟨_, exec_writeSequence_ended hq (Feed.pull_lazy_none Config.lazyElem hlazy), nofun, fun _ => rfl⟩
  | some y =>
    refine ⟨_, exec_writeSequence_elem hq (Feed.pull_lazy_some Config.lazyElem hlazy), fun z hz => ?_, nofun⟩
    cases hz
    rfl

/-! ## The transitions of a send operation (R134) -/

section Rows

variable {s t : State}

/-- A run of one step is that step. -/
theorem RunTo.step {n : Nat} {T : List Event} (h : RunTo s 1 n T t) : step s = .next t := by
  have hrun := h.run
  cases hs : Machine.step s with
  | next u => rwa [runSteps_one hs] at hrun
  | fault f => simp [runSteps, hs] at hrun
  | refused r => simp [runSteps, hs] at hrun

/-- The DC operation of a send, answered fail: the operation ends with it (R134, R152). -/
theorem runTo_dcFail {kind : SendKind} {p : Payload} (hw : s.hostWaits = true) (hq : s.seq = .dcPending kind p)
    (ha : s.ans 0 = .fail) :
    ∃ t, RunTo s 1 1 [.lineOp .dc (dcLevel kind) .fail, .ret (.err .dcError)] t ∧ t.seq = .idle := by
  have hx : step s = .next (advance (.dcPending kind p) (s.ans 0) (lineOp .dc (dcLevel kind) s)) := by
    cases kind <;> exact step_of_seq hw hq rfl rfl
  have hs : step s = .next (raise .dcError (lineOp .dc (dcLevel kind) s)) := by
    rw [hx, ha]
    rfl
  have hevent : s.nextAnswer = .fail := ha
  exact ⟨_, ⟨runSteps_one hs, rfl, rfl, rfl, rfl, by simp [hevent]⟩, rfl⟩

/-- The dispatch of an unsupported tag ends the operation (R132, R154). -/
theorem runTo_unsupported {p : Payload} (hw : s.hostWaits = true) (hq : s.seq = .dcSet p) (hf : widthOf p.fmt = none) :
    ∃ t, RunTo s 1 0 [.ret (.err .unsupportedFormat)] t ∧ t.seq = .idle :=
  ⟨_, ⟨runSteps_one (step_of_seq hw hq rfl (exec_writePayload_unsupported hq hf)), rfl, rfl, rfl, rfl, rfl⟩, rfl⟩

/-- A line operation of a word whose answer raises `e` ends the operation (R134, R153). -/
theorem runTo_wordRaise {i : Nat} {w : Word16} {k : WordStep} {ws : WordSeq} {l : LineId} {lvl : Level} {e : Err}
    (hw : s.hostWaits = true) (hq : s.seq = .writing i w k ws) (hx : exec (wordOp w k) s = .next (lineOp l lvl s))
    (ha : ∀ t, afterWordStep i w k ws (s.ans 0) t = raise e t) :
    ∃ t, RunTo s 1 1 [.lineOp l lvl (s.ans 0), .ret (.err e)] t ∧ t.seq = .idle := by
  have hs : step s = .next (raise e (lineOp l lvl s)) :=
    (step_of_seq hw hq rfl hx).trans (congrArg Host.Outcome.next (ha _))
  exact ⟨_, ⟨runSteps_one hs, rfl, rfl, rfl, rfl, List.append_assoc _ _ _⟩, rfl⟩

/-- A WR operation of a word, by its answer: SEQ moves on to `q`, or `BusWriteError` ends the operation (R134). -/
theorem step_wordWr {i : Nat} {w : Word16} {k : WordStep} {ws : WordSeq} {lvl : Level} {q : SeqState}
    (hw : s.hostWaits = true) (hq : s.seq = .writing i w k ws) (hx : exec (wordOp w k) s = .next (lineOp .wr lvl s))
    (ha : ∀ a t, afterWordStep i w k ws a t = raiseOr (raised .wr a) (fun u => u.withSeq q) t) :
    ∃ t, step s = .next t ∧
      (s.ans 0 = .ok → t.seq = q ∧ t.trace = s.trace ++ [.lineOp .wr lvl .ok]) ∧
      (s.ans 0 = .fail → t.seq = .idle ∧ t.trace = s.trace ++ [.lineOp .wr lvl .fail, .ret (.err .busWriteError)]) := by
  cases h0 : s.ans 0 with
  | ok =>
    obtain ⟨t, r, hqt⟩ := runTo_wordLine (q := q) hw hq hx fun t => by rw [ha, h0]; rfl
    exact ⟨t, r.step, fun _ => ⟨hqt, h0 ▸ r.trace⟩, nofun⟩
  | fail =>
    obtain ⟨t, r, hqt⟩ := runTo_wordRaise (e := .busWriteError) hw hq hx fun t => by rw [ha, h0]; rfl
    exact ⟨t, r.step, nofun, fun _ => ⟨hqt, h0 ▸ r.trace⟩⟩

end Rows

/-- Settles O25: each row is one step of the run, by its answer where the table asks for one. -/
theorem sendTransitionTable : Obligations.SendTransitionTable := by
  intro s hw p i w ws
  refine ⟨fun kind hq => ?_, fun hq => ?_, fun hq => ?_, fun hq => ?_, fun hq => ?_, fun hq => ?_, fun hq => ?_,
    fun hq => ?_⟩
  · cases h0 : s.ans 0 with
    | ok =>
      obtain ⟨t, r, hqt⟩ := runTo_dc hw hq h0
      exact ⟨t, r.step, fun _ => ⟨hqt, r.trace⟩, nofun⟩
    | fail =>
      obtain ⟨t, r, hqt⟩ := runTo_dcFail hw hq h0
      exact ⟨t, r.step, nofun, fun _ => ⟨hqt, r.trace⟩⟩
  · cases hf : widthOf p.fmt with
    | some wd =>
      obtain ⟨t, r, hqt⟩ := runTo_dispatch hw hq hf
      refine ⟨t, r.step, fun wd' hwd => ?_, nofun⟩
      cases hwd
      exact ⟨hqt, r.trace.trans (List.append_nil _)⟩
    | none =>
      obtain ⟨t, r, hqt⟩ := runTo_unsupported hw hq hf
      exact ⟨t, r.step, nofun, fun _ => ⟨hqt, r.trace⟩⟩
  · cases hn : ws.next with
    | some n =>
      obtain ⟨t, r, hqt⟩ := runTo_pull (el := n.1) (rest := n.2) hw hq hn
      refine ⟨t, r.step, fun e rest he => ?_, nofun⟩
      cases he
      exact ⟨hqt, r.trace⟩
    | none =>
      obtain ⟨t, r, hqt⟩ := runTo_pullEnd hw hq hn
      exact ⟨t, r.step, nofun, fun _ => ⟨hqt, r.trace⟩⟩
  · exact ⟨_, step_word1 hw hq, rfl, rfl⟩
  · exact step_wordWr hw hq rfl fun _ _ => rfl
  · exact ⟨_, step_of_seq hw hq rfl rfl, rfl, rfl, rfl⟩
  · exact step_wordWr hw hq rfl fun _ _ => rfl
  · exact ⟨_, step_word5 hw hq, rfl, rfl⟩

/-! ## Reuse after failure (R137, R159) -/

section Reuse

variable {s t u : State}

/-- The event of a pin-side micro-operation is no result. -/
theorem PinAction.trace_isRet (hu : PinAction s u) : ∃ e, u.trace = s.trace ++ [e] ∧ e.isRet = false := by
  cases hu <;> exact ⟨_, rfl, rfl⟩

/-- `t` is `s` with events appended that are no results. -/
def AppendsNoResult (s t : State) : Prop :=
  ∃ T, t.trace = s.trace ++ T ∧ ∀ e ∈ T, e.isRet = false

theorem AppendsNoResult.one {e : Event} (ht : t.trace = s.trace ++ [e]) (he : e.isRet = false) : AppendsNoResult s t :=
  ⟨[e], ht, by simpa using he⟩

/-- A raise ends in Idle, so what does not has appended the event before it alone. -/
theorem AppendsNoResult.raiseOr_withSeq {e : Event} {err : Option Err} {q : SeqState} (hu : u.trace = s.trace ++ [e])
    (he : e.isRet = false) (hb : (raiseOr err (fun t => t.withSeq q) u).seq ≠ .idle) :
    AppendsNoResult s (raiseOr err (fun t => t.withSeq q) u) := by
  cases err with
  | none => exact .one hu he
  | some err => exact absurd rfl hb

/-- Only the arrival at Idle appends a result (R34, R134). -/
theorem StepTo.appendsNoResult (hst : StepTo s t) (hb : t.seq ≠ .idle) : AppendsNoResult s t := by
  cases hst with
  | rest hi | acceptRelease _ _ hi => exact absurd hi hb
  | reset | unsupported | pullEnd => exact absurd rfl hb
  | dispatch => exact ⟨[], (List.append_nil _).symm, nofun⟩
  | initStep k u _ hu =>
    obtain ⟨e, htrace, he⟩ := (pinAction_of_exec_initOp hu).trace_isRet
    unfold afterInitStep at hb ⊢
    cases hk : k.next with
    | none => simp [hk] at hb
    | some k' => exact .one htrace he
  | dc | word2 | word4 => exact .raiseOr_withSeq rfl rfl hb
  | acceptInit | acceptSend | pull | word1 | word3 | word5 => exact .one rfl rfl

/-- Whatever ends an operation in progress leaves LIFE Ready: INIT by making it so, a send by running in it (R112, R162). -/
theorem StepTo.life_ready (h : SeqLifeAgree s) (hst : StepTo s t) (hb : s.seq ≠ .idle) (ht : t.seq = .idle) :
    t.life = .ready := by
  cases hst with
  | rest hi | reset _ hi | acceptInit _ _ hi | acceptRelease _ _ hi | acceptSend _ _ _ _ _ hi => exact absurd hi hb
  | initStep k u =>
    unfold afterInitStep at ht ⊢
    cases hk : k.next with
    | none => rfl
    | some k' => simp [hk] at ht
  | dc _ _ hq | word2 _ _ _ hq | word4 _ _ _ hq => exact (raiseOr_withSeq_life _ _ _).trans (h.life_eq hq rfl)
  | dispatch _ _ hq | unsupported _ hq | pull _ _ _ _ hq | pullEnd _ _ hq | word1 _ _ _ hq | word3 _ _ _ hq
  | word5 _ _ _ hq => exact h.life_eq hq rfl

end Reuse

/-- Settles O35: a result is appended on the arrival at Idle alone, and an operation that ends leaves LIFE Ready. -/
theorem errorsLeaveTheInstanceUsable : Obligations.ErrorsLeaveTheInstanceUsable := by
  intro s t e evs h _ hb hstep htrace
  have hst := step_inversion hstep
  have hq : t.seq = .idle := by
    by_contra hbusy
    obtain ⟨T, hT, hret⟩ := hst.appendsNoResult hbusy
    have hevs : evs ++ [.ret (.err e)] = T :=
      List.append_cancel_left ((List.append_assoc _ _ _).symm.trans (htrace.symm.trans hT))
    cases hret (.ret (.err e)) (by simp [← hevs])
  have hl := hst.life_ready h hb hq
  exact ⟨hq, hl, fun c r hr => ⟨_, sendOperationsAreAccepted t c hl hq r hr⟩⟩

/-! ## Whole send operations (R133, R136) -/

/-- Settles O39: the run of the whole send, under the row's header. -/
theorem sendWritesEveryElement : Obligations.SendWritesEveryElement := by
  intro s c r hr wd d e xs w rest hf hl hq hx hrest hd he ha has
  obtain ⟨hh, hdec⟩ := sendRows_header_decode c r hr
  obtain ⟨t, ht, hqt, hlt, -, -, hcount, htrace⟩ := runSteps_send hdec hf hl hq hx hrest hd he ha has
  exact ⟨t, ht, hqt, hlt, hcount, hh ▸ htrace⟩

section SendAccepted

variable (s : State) (kind : SendKind) (f : Fmt) (d : ElemStream) (rest : HostPlan)

@[simp] theorem State.sendAccepted_lineAnswer : (s.sendAccepted kind f d rest).lineAnswer = s.lineAnswer := rfl

@[simp] theorem State.sendAccepted_lineCount : (s.sendAccepted kind f d rest).lineCount = s.lineCount := rfl

@[simp] theorem State.sendAccepted_trace :
    (s.sendAccepted kind f d rest).trace = s.trace ++ [.accept (sendHeader kind f)] := rfl

end SendAccepted

section Send

variable {s : State}

/-- The words of the elements `xs` a payload delivers, whatever it does after them, when WR answers ok (R133, R136). -/
theorem runTo_delivered {wd : ElemWidth} {e : ElemStream} {xs : List Word16} {i : Nat} {d : ElemStream}
    (hw : s.hostWaits = true) (hq : s.seq = .fetch i ⟨wd, d⟩) (hd : Delivers d xs e)
    (ha : ∀ j < xs.length, s.ans (4 * j + 1) = .ok ∧ s.ans (4 * j + 2) = .ok) :
    ∃ t, RunTo s (6 * xs.length) (4 * xs.length) (wordsEvents s.lineAnswer s.lineCount i (xs.map (elemOf wd))) t ∧
      t.seq = .fetch (i + xs.length) ⟨wd, e⟩ := by
  induction xs generalizing s i d with
  | nil =>
    cases hd
    exact ⟨s, ⟨rfl, rfl, rfl, rfl, rfl, (List.append_nil _).symm⟩, hq⟩
  | cons x xs ih =>
    obtain ⟨d', hx, hd'⟩ := hd
    obtain ⟨h1, h2⟩ := ha 0 (by simp)
    obtain ⟨u, ru, qu⟩ := runTo_element hw hq (WordSeq.next_of_some hx) h1 h2
    have hu : ∀ j < xs.length, u.ans (4 * j + 1) = .ok ∧ u.ans (4 * j + 2) = .ok := by
      intro j hj
      rw [ru.ans, ru.ans, show 4 + (4 * j + 1) = 4 * (j + 1) + 1 by ring, show 4 + (4 * j + 2) = 4 * (j + 1) + 2 by ring]
      exact ha (j + 1) (by simpa using hj)
    obtain ⟨t, rt, qt⟩ := ih (ru.hostWaits.trans hw) qu hd' hu
    rw [ru.lineAnswer, ru.lineCount] at rt
    rw [List.length_cons, show 6 * (xs.length + 1) = 6 + 6 * xs.length by ring,
      show 4 * (xs.length + 1) = 4 + 4 * xs.length by ring, show i + (xs.length + 1) = i + 1 + xs.length by ring]
    exact ⟨t, ru.trans rt, qt⟩

/-- From the acceptance to the first pull, when DC answers ok and the tag is supported (R130 to R132). -/
theorem runTo_firstFetch {kind : SendKind} {p : Payload} {wd : ElemWidth} (hw : s.hostWaits = true)
    (hq : s.seq = .dcPending kind p) (ha : s.ans 0 = .ok) (hf : widthOf p.fmt = some wd) :
    ∃ t, RunTo s 2 1 [.lineOp .dc (dcLevel kind) .ok] t ∧ t.seq = .fetch 0 ⟨wd, p.data⟩ := by
  obtain ⟨u, ru, qu⟩ := runTo_dc hw hq ha
  obtain ⟨t, rt, qt⟩ := runTo_dispatch (ru.hostWaits.trans hw) qu hf
  exact ⟨t, ru.trans rt, qt⟩

/-- A word that a WR failure cuts off: its first 2 or 4 events, and the operation ends with `BusWriteError` (R118, R153). -/
theorem runSteps_wordCut {i : Nat} {w : Word16} {ws : WordSeq} (hw : s.hostWaits = true)
    (hq : s.seq = .writing i w .d1 ws) (hfail : s.ans 1 = .fail ∨ s.ans 2 = .fail) :
    ∃ t, runSteps (wordStepCount (s.ans 1) (s.ans 2)) s = .next t ∧ t.seq = .idle ∧ t.life = s.life ∧
      t.trace = s.trace ++
        (wordEvents (s.ans 0) (s.ans 1) (s.ans 2) (s.ans 3) w).take (wordStepCount (s.ans 1) (s.ans 2)) ++
        [.ret (.err .busWriteError)] := by
  have hseq : (driveWord w s).2.seq = .writing i w .d1 ws := (driveWord_seq w s).trans hq
  have hlife : (driveWord w s).2.life = s.life := by
    rcases driveWord_cases w s with ⟨-, hd⟩ | ⟨-, -, hd⟩ | ⟨-, -, hd⟩ <;> rw [hd] <;> rfl
  refine ⟨raise .busWriteError (driveWord w s).2, ?_, rfl, hlife, congrArg (· ++ _) (driveWord_trace w s)⟩
  rw [runSteps_word hw hq, driveWord_fst_of_fail w hfail, wordReturn_err hseq]

end Send

/-! ## A WR failure on word `i` (R133 case (b), R138) -/

section Cut

variable {s : State}

/-- A send operation whose WR operations answer ok for the elements `xs`, and then fail on the word of `x`: the run to the
end of that word (R133 case (b), R138). -/
theorem runSteps_sendCut {kind : SendKind} {f : Fmt} {wd : ElemWidth} {h : Byte} {d e e' : ElemStream}
    {xs : List Word16} {x : Word16} {w : Bool} {rest : HostPlan} (hh : decodeHeader h = .ok (sendOf kind f))
    (hf : widthOf f = some wd) (hl : s.life = .ready) (hq : s.seq = .idle)
    (hx : s.inbox.next = some (.op h d w, rest)) (hr : rest.waits = true) (hd : Delivers d xs e)
    (he : e.next = some (x, e')) (ha : s.ans 0 = .ok)
    (has : ∀ j < xs.length, s.ans (4 * j + 2) = .ok ∧ s.ans (4 * j + 3) = .ok) {a1 a2 : Answer}
    (h1 : s.ans (4 * xs.length + 2) = a1) (h2 : s.ans (4 * xs.length + 3) = a2) (hfail : a1 = .fail ∨ a2 = .fail) :
    ∃ t, runSteps (6 * xs.length + 4 + wordStepCount a1 a2) s = .next t ∧ t.seq = .idle ∧ t.life = .ready ∧
      t.trace = s.trace ++ [.accept (sendHeader kind f), .lineOp .dc (dcLevel kind) .ok] ++
        wordsEvents s.lineAnswer (s.lineCount + 1) 0 (xs.map (elemOf wd)) ++ [.pull xs.length (.elem (elemOf wd x))] ++
        (wordEvents (s.ans (4 * xs.length + 1)) a1 a2 (s.ans (4 * xs.length + 4)) (wordOf (elemOf wd x))).take
          (wordStepCount a1 a2) ++ [.ret (.err .busWriteError)] := by
  have hs := step_acceptSend hh hl hq hx
  obtain ⟨t1, r1, q1⟩ := runTo_firstFetch (s := s.sendAccepted kind f d rest) hr rfl ha hf
  have hwords : ∀ j < xs.length, t1.ans (4 * j + 1) = .ok ∧ t1.ans (4 * j + 2) = .ok := by
    intro j hj
    rw [r1.ans, r1.ans, show 1 + (4 * j + 1) = 4 * j + 2 by ring, show 1 + (4 * j + 2) = 4 * j + 3 by ring]
    exact has j hj
  obtain ⟨t2, r2, q2⟩ := runTo_delivered (r1.hostWaits.trans hr) q1 hd hwords
  rw [r1.lineAnswer, r1.lineCount] at r2
  have r12 := r1.trans r2
  obtain ⟨t3, r3, q3⟩ := runTo_pull (r12.hostWaits.trans hr) q2 (WordSeq.next_of_some he)
  have r := r12.trans r3
  have hans : ∀ j, t3.ans j = s.ans (4 * xs.length + (j + 1)) := by
    intro j
    rw [r.ans, show 1 + 4 * xs.length + 0 + j = 4 * xs.length + (j + 1) by ring]
    rfl
  have h1' : t3.ans 1 = a1 := (hans 1).trans h1
  have h2' : t3.ans 2 = a2 := (hans 2).trans h2
  obtain ⟨t, ht, hqt, hlt, htrace⟩ := runSteps_wordCut (r.hostWaits.trans hr) q3 (h1' ▸ h2' ▸ hfail)
  rw [h1', h2'] at ht htrace
  refine ⟨t, ?_, hqt, (hlt.trans r.life).trans hl, ?_⟩
  · rw [show 6 * xs.length + 4 + wordStepCount a1 a2 = (2 + 6 * xs.length + 1 + wordStepCount a1 a2) + 1 by ring,
      runSteps_succ hs, runSteps_add r.run, ht]
  · rw [htrace, r.trace, hans 0, hans 3]
    simp

end Cut

/-- Settles O40: the cut word's steps are 2 or 4, and the events after the cut do not show. -/
theorem wrFailureStopsThePayload : Obligations.WrFailureStopsThePayload := by
  intro s c r hr wd d e e' xs x w rest hf hl hq hx hrest hd he ha has q hmem h1 h2
  obtain ⟨hh, hdec⟩ := sendRows_header_decode c r hr
  rw [hh]
  simp only [List.mem_cons, List.not_mem_nil, or_false] at hmem
  rcases hmem with rfl | rfl
  · exact runSteps_sendCut hdec hf hl hq hx hrest hd he ha has h1 rfl (.inl rfl)
  · exact runSteps_sendCut hdec hf hl hq hx hrest hd he ha has h1 (h2 rfl) (.inr rfl)

/-! ## One DC event per call (R135) -/

section OneDcEvent

variable {s t : State}

/-- Events that neither drive DC nor are results: what a payload adds between the DC operation and the result. -/
def PayloadEvents (T : List Event) : Prop := ∀ e ∈ T, e.drives .dc = false ∧ e.isRet = false

theorem PayloadEvents.append {T U : List Event} (hT : PayloadEvents T) (hU : PayloadEvents U) : PayloadEvents (T ++ U) :=
  fun e he => (List.mem_append.mp he).elim (hT e) (hU e)

theorem payloadEvents_pull (i : Nat) (p : Pulled) : PayloadEvents [.pull i p] := by
  simp [PayloadEvents, Event.drives, Event.isRet]

theorem payloadEvents_word (a1 a2 a4 a5 : Answer) (w : Word16) : PayloadEvents (wordEvents a1 a2 a4 a5 w) := by
  simp [PayloadEvents, wordEvents, Event.drives, Event.isRet]

/-- From `s` the operation in progress returns, and until then it adds payload events alone. -/
def ReturnsFromPayload (s : State) : Prop :=
  ∃ k t T res, runSteps k s = .next t ∧ t.seq = .idle ∧ t.trace = s.trace ++ T ++ [.ret res] ∧ PayloadEvents T

theorem ReturnsFromPayload.of_run {k n : Nat} {T : List Event} (hs : RunTo s k n T t) (hT : PayloadEvents T)
    (ht : ReturnsFromPayload t) : ReturnsFromPayload s := by
  obtain ⟨m, u, U, res, hrun, hq, htrace, hU⟩ := ht
  refine ⟨k + m, u, T ++ U, res, (runSteps_add hs.run).trans hrun, hq, ?_, hT.append hU⟩
  rw [htrace, hs.trace, List.append_assoc s.trace]

/-- A payload that ends returns, whatever the answers: at its end, or at the first WR failure (R133, R136, R138). -/
theorem returnsFromPayload_of_fetch {wd : ElemWidth} {e : ElemStream} (he : e.next = none) {xs : List Word16} {i : Nat}
    {d : ElemStream} (hw : s.hostWaits = true) (hq : s.seq = .fetch i ⟨wd, d⟩) (hd : Delivers d xs e) :
    ReturnsFromPayload s := by
  induction xs generalizing s i d with
  | nil =>
    cases hd
    obtain ⟨t, rt, qt⟩ := runTo_pullEnd hw hq (WordSeq.next_of_none he)
    exact ⟨1, t, _, .ok, rt.run, qt, rt.trace.trans (List.append_assoc _ [_] [_]).symm, payloadEvents_pull i .ended⟩
  | cons x xs ih =>
    obtain ⟨d', hx, hd'⟩ := hd
    obtain ⟨u, ru, qu⟩ := runTo_pull hw hq (WordSeq.next_of_some hx)
    have hwu := ru.hostWaits.trans hw
    refine .of_run ru (payloadEvents_pull i _) ?_
    by_cases hok : u.ans 1 = .ok ∧ u.ans 2 = .ok
    · obtain ⟨t, rt, qt⟩ := runTo_word hwu qu hok.1 hok.2
      exact .of_run rt (payloadEvents_word _ _ _ _ _) (ih (rt.hostWaits.trans hwu) qt hd')
    · have hfail : u.ans 1 = .fail ∨ u.ans 2 = .fail := by
        revert hok
        cases u.ans 1 <;> cases u.ans 2 <;> simp
      obtain ⟨t, ht, qt, -, htrace⟩ := runSteps_wordCut hwu qu hfail
      exact ⟨_, t, _, _, ht, qt, htrace, fun e he => payloadEvents_word _ _ _ _ _ e (List.mem_of_mem_take he)⟩

/-- From the dispatch on, every tag with a payload that ends returns (R132). -/
theorem returnsFromPayload_of_dcSet {p : Payload} {e : ElemStream} {xs : List Word16} (hw : s.hostWaits = true)
    (hq : s.seq = .dcSet p) (hd : Delivers p.data xs e) (he : e.next = none) : ReturnsFromPayload s := by
  cases hf : widthOf p.fmt with
  | none =>
    obtain ⟨t, rt, qt⟩ := runTo_unsupported hw hq hf
    exact ⟨1, t, [], _, rt.run, qt, by rw [rt.trace, List.append_nil], nofun⟩
  | some wd =>
    obtain ⟨t, rt, qt⟩ := runTo_dispatch hw hq hf
    exact .of_run rt nofun (returnsFromPayload_of_fetch he (rt.hostWaits.trans hw) qt hd)

end OneDcEvent

/-- Settles O41: the DC operation follows the acceptance; its failure ends the call, and after its success the payload adds
no DC operation until it returns. -/
theorem everySendHasOneDcEvent : Obligations.EverySendHasOneDcEvent := by
  intro s c r hr d e xs w rest hl hq hx hrest hd he
  obtain ⟨hh, hdec⟩ := sendRows_header_decode c r hr
  have hs := step_acceptSend hdec hl hq hx
  cases h0 : s.ans 0 with
  | fail =>
    obtain ⟨t, rt, qt⟩ := runTo_dcFail (s := s.sendAccepted r.kind r.fmt d rest) hrest rfl h0
    refine ⟨2, t, [], .err .dcError, (runSteps_succ hs).trans rt.run, qt, ?_, nofun⟩
    rw [rt.trace, hh]
    simp
  | ok =>
    obtain ⟨u, ru, qu⟩ := runTo_dc (s := s.sendAccepted r.kind r.fmt d rest) hrest rfl h0
    obtain ⟨k, t, T, res, ht, qt, htrace, hT⟩ := returnsFromPayload_of_dcSet (ru.hostWaits.trans hrest) qu hd he
    refine ⟨1 + k + 1, t, T, res, ?_, qt, ?_, hT⟩
    · rw [runSteps_succ hs, runSteps_add ru.run, ht]
    · rw [htrace, ru.trace, hh]
      simp

/-! ## Infinite payloads (R139) -/

section Busy

variable {s t : State}

/-- For `k` steps from `s` the run goes on and an operation is in progress. -/
def BusyFor (k : Nat) (s : State) : Prop := ∀ m ≤ k, ∃ t, runSteps m s = .next t ∧ t.seq ≠ .idle

theorem busyFor_zero (hb : s.seq ≠ .idle) : BusyFor 0 s := by
  intro m hm
  obtain rfl : m = 0 := Nat.le_zero.mp hm
  exact ⟨s, rfl, hb⟩

theorem BusyFor.trans {k n : Nat} (hs : BusyFor k s) (hrun : runSteps k s = .next t) (ht : BusyFor n t) :
    BusyFor (k + n) s := by
  intro m hm
  rcases Nat.le_total m k with hmk | hkm
  · exact hs m hmk
  · obtain ⟨j, rfl⟩ := Nat.exists_eq_add_of_le hkm
    rw [runSteps_add hrun]
    exact ht j (Nat.le_of_add_le_add_left hm)

/-- A step from one state in an operation to another. -/
theorem BusyFor.of_step (hb : s.seq ≠ .idle) (hrun : runSteps 1 s = .next t) (ht : t.seq ≠ .idle) : BusyFor 1 s := by
  intro m hm
  rcases Nat.le_one_iff_eq_zero_or_eq_one.mp hm with rfl | rfl
  · exact ⟨s, rfl, hb⟩
  · exact ⟨t, hrun, ht⟩

/-- The five steps of a word whose WR operations answer ok keep the operation in progress (R110, R134). -/
theorem busyFor_word {i : Nat} {w : Word16} {ws : WordSeq} (hw : s.hostWaits = true) (hq : s.seq = .writing i w .d1 ws)
    (h1 : s.ans 1 = .ok) (h2 : s.ans 2 = .ok) : BusyFor 5 s := by
  have hlow : runSteps 2 s = .next (s.wordLow.withSeq (.writing i w .d3 ws)) := by
    rw [runSteps_wordLow hw hq, h1]
    rfl
  have hwritten : runSteps 4 s = .next ((s.wordWritten w).withSeq (.writing i w .d5 ws)) := by
    rw [runSteps_wordWritten hw hq h1, h2]
    rfl
  intro m hm
  interval_cases m
  · exact ⟨s, rfl, by simp [hq]⟩
  · exact ⟨_, runSteps_one (step_word1 hw hq), nofun⟩
  · exact ⟨_, hlow, nofun⟩
  · exact ⟨_, (runSteps_add (m := 1) hlow).trans (runSteps_one (step_withSeq s.wordLow hw rfl rfl)), nofun⟩
  · exact ⟨_, hwritten, nofun⟩
  · exact ⟨_, runSteps_wordDone hw hq h1 h2, nofun⟩

/-- `k` turns of the loop over an endless payload, when WR answers ok (R133, R139). -/
theorem busyFor_endless {wd : ElemWidth} {d : ElemStream} {i : Nat} (k : Nat) (hw : s.hostWaits = true)
    (hq : s.seq = .fetch i ⟨wd, d⟩) (hd : Endless Config.lazyElem d.tail)
    (ha : ∀ j < k, s.ans (4 * j + 1) = .ok ∧ s.ans (4 * j + 2) = .ok) : BusyFor (6 * k) s := by
  induction k generalizing s i d with
  | zero => exact busyFor_zero (by simp [hq])
  | succ k ih =>
    obtain ⟨x, d', hx, hd'⟩ := Feed.pull_of_endless Config.lazyElem hd
    obtain ⟨h1, h2⟩ := ha 0 (Nat.succ_pos k)
    obtain ⟨u, ru, qu⟩ := runTo_pull hw hq (WordSeq.next_of_some hx)
    have hwu := ru.hostWaits.trans hw
    have h1u : u.ans 1 = .ok := (ru.ans 1).trans h1
    have h2u : u.ans 2 = .ok := (ru.ans 2).trans h2
    obtain ⟨t, rt, qt⟩ := runTo_word hwu qu h1u h2u
    have r := ru.trans rt
    have ht : ∀ j < k, t.ans (4 * j + 1) = .ok ∧ t.ans (4 * j + 2) = .ok := by
      intro j hj
      rw [r.ans, r.ans, show 0 + 4 + (4 * j + 1) = 4 * (j + 1) + 1 by ring,
        show 0 + 4 + (4 * j + 2) = 4 * (j + 1) + 2 by ring]
      exact ha (j + 1) (Nat.succ_lt_succ hj)
    have hpull : BusyFor 1 s := .of_step (by simp [hq]) ru.run (by simp [qu])
    have helement : BusyFor (1 + 5) s := hpull.trans ru.run (busyFor_word hwu qu h1u h2u)
    rw [show 6 * (k + 1) = 1 + 5 + 6 * k by ring]
    exact helement.trans r.run (ih (rt.hostWaits.trans hwu) qt hd' ht)

end Busy

/-- Settles O42: after the DC operation and the dispatch every turn of the loop keeps the operation in progress. -/
theorem infinitePayloadNeverReturns : Obligations.InfinitePayloadNeverReturns := by
  intro s c r hr wd xs tl w rest k hf hl hq hx hrest hend ha has m hm
  obtain ⟨-, hdec⟩ := sendRows_header_decode c r hr
  rw [runSteps_succ (step_acceptSend hdec hl hq hx)]
  obtain ⟨u, ru, qu⟩ := runTo_dc (s := s.sendAccepted r.kind r.fmt ⟨xs, tl⟩ rest) hrest rfl ha
  obtain ⟨t, rt, qt⟩ := runTo_dispatch (ru.hostWaits.trans hrest) qu hf
  have rfetch := ru.trans rt
  have hwords : ∀ j < k, t.ans (4 * j + 1) = .ok ∧ t.ans (4 * j + 2) = .ok := by
    intro j hj
    rw [rfetch.ans, rfetch.ans, show 1 + 0 + (4 * j + 1) = 4 * j + 2 by ring,
      show 1 + 0 + (4 * j + 2) = 4 * j + 3 by ring]
    exact has j hj
  have hdc : BusyFor 1 (s.sendAccepted r.kind r.fmt ⟨xs, tl⟩ rest) := .of_step nofun ru.run (by simp [qu])
  have hdispatch : BusyFor 1 u := .of_step (by simp [qu]) rt.run (by simp [qt])
  have hopened := hdc.trans ru.run hdispatch
  exact hopened.trans rfetch.run (busyFor_endless k (rfetch.hostWaits.trans hrest) qt hend hwords) m (by omega)

end Sys2Proof.Machine
end

section
/-! PROOFS. Errors (60_exceptions.md): which host operations are refused and how (R162, R163), what a failed line operation
means to the operation that issued it (R151 to R155, R161), and what a raise leaves (R158, R159). -/

namespace Sys2Proof.Machine

/-! ## Refused host operations (R162, R163) -/

/-- In Idle acceptance is refused in every LIFE but the one needed (R162). -/
theorem accept_of_wrong_life {s : State} {needs : Lifecycle} (hq : s.seq = .idle) (hl : s.life ≠ needs) (h : Byte)
    (next : State → State) : accept h needs next s = .refused (.lifecycle s.life) := by
  simp [accept, hq, hl, SeqState.isIdle]

/-- A host operation is an acceptance: INIT in Uninit, RELEASE and the send operations in Ready (R112, R115, R130, R131). -/
theorem exec_eq_accept (s : State) {c : BitVec 3} {q : Instr × Lifecycle}
    (hq : q ∈ (Instr.init, Lifecycle.uninit) :: (Instr.release, Lifecycle.ready) ::
      (sendRows c).map fun r => (r.op, Lifecycle.ready)) :
    ∃ h next, exec q.1 s = accept h q.2 next s := by
  rw [List.mem_cons, List.mem_cons, List.mem_map] at hq
  rcases hq with rfl | rfl | ⟨r, hr, rfl⟩
  · exact ⟨0x00#8, fun t => t.withSeq (.initStep .m1), rfl⟩
  · exact ⟨0x30#8, fun t => finish .ok (t.withLife .released), rfl⟩
  · rw [sendRows_op c r hr, exec_sendOf]
    exact ⟨_, _, rfl⟩

/-- Settles O15: a host operation is an acceptance, which asks for Idle first and then for its LIFE. -/
theorem hostOperationsRefusedElsewhere : Obligations.HostOperationsRefusedElsewhere := by
  intro s c q hq
  obtain ⟨h, next, hx⟩ := exec_eq_accept s hq
  rw [hx]
  exact ⟨fun hb => accept_of_busy hb h q.2 next, fun hi hl => accept_of_wrong_life hi hl h next⟩

/-! ## A line operation and its answer (R90, R155) -/

section LineAnswer

variable {s : State} {l : LineId} {lvl : Level} {a : Answer} {e : Err}

/-- The state a line operation leaves, with its answer named (R90). -/
theorem lineOp_of_answer (ha : s.nextAnswer = a) (l : LineId) (lvl : Level) :
    lineOp l lvl s = { s with
      lines := s.lines.set l (levelAfter s.params.failLevel a lvl (s.lines.get l))
      lineCount := s.lineCount + 1
      trace := s.trace ++ [.lineOp l lvl a] } := by
  subst ha
  rfl

/-- The state a failed line operation and the raise after it leave: no clean-up (R158). -/
theorem raise_lineOp_of_fail (ha : s.nextAnswer = .fail) (l : LineId) (lvl : Level) (e : Err) :
    raise e (lineOp l lvl s) = { s with
      seq := .idle
      lines := (lineOp l lvl s).lines
      lineCount := s.lineCount + 1
      trace := s.trace ++ [.lineOp l lvl .fail, .ret (.err e)] } := by
  simp [lineOp_of_answer ha]

/-- Only a fail answer is raised, and only of DC or WR (R155, R161). -/
theorem raised_eq_some (h : raised l a = some e) :
    a = .fail ∧ ((l = .dc ∧ e = .dcError) ∨ (l = .wr ∧ e = .busWriteError)) := by
  cases a with
  | ok => cases h
  | fail => cases l <;> cases h <;> simp

end LineAnswer

/-! ## The steps of a failed operation (R151 to R154, R161) -/

section Failures

variable {s : State}

/-- The DC operation of a send: its error is raised, or the dispatch comes next (R134, R152). -/
theorem step_dc {kind : SendKind} {p : Payload} (hw : s.hostWaits = true) (hq : s.seq = .dcPending kind p) :
    step s = .next
      (raiseOr (raised .dc s.nextAnswer) (fun t => t.withSeq (.dcSet p)) (lineOp .dc (dcLevel kind) s)) := by
  cases kind <;> exact step_of_seq hw hq rfl rfl

/-- A failed WR operation of a word ends the operation there, at step 2 and at step 4 alike (R110, R153). -/
theorem step_wordWr_fail {i : Nat} {w : Word16} {k : WordStep} {ws : WordSeq} {lvl : Level}
    (hk : (k, lvl) ∈ [(WordStep.d2, Level.low), (.d4, .high)]) (hw : s.hostWaits = true) (ha : s.nextAnswer = .fail)
    (hq : s.seq = .writing i w k ws) : step s = .next (raise .busWriteError (lineOp .wr lvl s)) := by
  have hx : exec (wordOp w k) s = .next (lineOp .wr lvl s) ∧
      ∀ t, afterWordStep i w k ws .fail t = raise .busWriteError t := by
    simp only [List.mem_cons, Prod.mk.injEq, List.not_mem_nil, or_false] at hk
    rcases hk with ⟨rfl, rfl⟩ | ⟨rfl, rfl⟩ <;> exact ⟨rfl, fun _ => rfl⟩
  rw [step_of_seq hw hq rfl hx.1, advance, ha, hx.2]

/-- A line operation among INIT's micro-steps adds its event and no result, whatever its answer (R112, R169). -/
theorem step_initLine {k : InitStep} {r : LineRow} (hr : r ∈ lineRows) (hw : s.hostWaits = true)
    (hq : s.seq = .initStep k) (hop : initOp s.params.initOrder k = r.op) :
    ∃ t, step s = .next t ∧ t.trace = s.trace ++ [.lineOp r.line r.level s.nextAnswer] := by
  have hx : exec (initOp s.params.initOrder k) s = .next (lineOp r.line r.level s) :=
    (congrArg (exec · s) hop).trans (exec_of_mem_lineRows s hr)
  have hstep : step s = .next (afterInitStep k (lineOp r.line r.level s)) := step_of_seq hw hq rfl hx
  cases hk : k.next with
  | some k' => exact ⟨_, hstep, by simp [afterInitStep, hk]⟩
  | none =>
    have hnot : ∀ r ∈ lineRows, r.op ≠ .cfgOut := by decide
    cases (InitStep.next_eq_none_iff k).mp hk
    exact absurd hop.symm (hnot r hr)

/-- So a failed operation of one line in INIT, to either level, raises nothing (R152, R153). -/
theorem step_initLine_fail {k : InitStep} {l : LineId} {iLow iHigh : Instr} (hlow : ⟨iLow, l, .low⟩ ∈ lineRows)
    (hhigh : ⟨iHigh, l, .high⟩ ∈ lineRows) (hw : s.hostWaits = true) (ha : s.nextAnswer = .fail)
    (hq : s.seq = .initStep k)
    (hop : initOp s.params.initOrder k = iLow ∨ initOp s.params.initOrder k = iHigh) :
    ∃ t lvl, step s = .next t ∧ t.trace = s.trace ++ [.lineOp l lvl .fail] := by
  rw [← ha]
  rcases hop with hop | hop
  · obtain ⟨t, ht, htrace⟩ := step_initLine hlow hw hq hop
    exact ⟨t, .low, ht, htrace⟩
  · obtain ⟨t, ht, htrace⟩ := step_initLine hhigh hw hq hop
    exact ⟨t, .high, ht, htrace⟩

/-- The unsupported tags are the ones with no element width (R73). -/
theorem widthOf_eq_none_iff (f : Fmt) : widthOf f = none ↔ ∃ c, f = .other c := by
  cases f <;> simp [widthOf]

end Failures

/-- Settles O30: the DC operation and its raise are one step of the send; in INIT the step has no raise. -/
theorem dcFailureEndsTheSend : Obligations.DcFailureEndsTheSend := by
  intro s kind p hw ha
  refine ⟨fun hq => ?_, fun k hq hop => ?_⟩
  · have hstep := step_dc hw hq
    rw [ha, raised_dc_fail, raiseOr_some] at hstep
    exact ⟨_, hstep, raise_lineOp_of_fail ha _ _ _, fun l hl => lineOp_get_other _ _ _ hl⟩
  · exact step_initLine_fail (by decide) (by decide) hw ha hq hop

/-- Settles O33: the WR operation and its raise are one step of the word; in INIT the step has no raise. -/
theorem wrFailureRaisesAndUndoesNothing : Obligations.WrFailureRaisesAndUndoesNothing := by
  intro s i w ws hw ha
  refine ⟨fun q hmem hq => ?_, fun k hq hop => ?_⟩
  · exact ⟨_, step_wordWr_fail hmem hw ha hq, raise_lineOp_of_fail ha _ _ _, fun l hl => lineOp_get_other _ _ _ hl⟩
  · exact step_initLine_fail (by decide) (by decide) hw ha hq hop

/-- Settles O31: after the DC operation the dispatch looks at the tag's class alone. -/
theorem unsupportedFormatAfterDc : Obligations.UnsupportedFormatAfterDc := by
  intro s kind f d hw ha hq
  have hdc : step s = .next ((lineOp .dc (dcLevel kind) s).withSeq (.dcSet ⟨f, d⟩)) := by
    rw [step_dc hw hq, ha, raised_ok, raiseOr_none]
  rw [lineOp_of_answer ha] at hdc
  rw [runSteps_succ hdc]
  cases hf : widthOf f with
  | none =>
    obtain ⟨c, rfl⟩ := (widthOf_eq_none_iff f).mp hf
    exact ⟨_, runSteps_one (step_of_seq hw rfl rfl (exec_writePayload_unsupported rfl hf)), rfl,
      fun _ => ⟨rfl, List.append_assoc _ _ _⟩, fun hsupported => absurd rfl (hsupported c)⟩
  | some wd =>
    refine ⟨_, runSteps_one (step_of_seq hw rfl rfl (exec_writePayload_supported rfl hf)), rfl, fun hother => ?_,
      fun _ => ⟨⟨wd, rfl⟩, rfl⟩⟩
    cases hf.symm.trans ((widthOf_eq_none_iff f).mpr hother)

/-- Settles O32: the rows of R134 for CS and DC, and the raise of a failed WR operation. -/
theorem csFailuresSwallowedWrAndDcPropagate : Obligations.CsFailuresSwallowedWrAndDcPropagate := by
  intro s hw i w ws kind p
  obtain ⟨hdc, -, -, hcsLow, -, -, -, hcsHigh⟩ := sendTransitionTable s hw p i w ws
  refine ⟨hcsLow, hcsHigh, fun k hk hq ha => ?_, fun hq ha => ?_⟩
  · obtain ⟨lvl, hlvl⟩ : ∃ lvl, (k, lvl) ∈ [(WordStep.d2, Level.low), (.d4, .high)] := by simpa [exists_or] using hk
    exact ⟨_, _, step_wordWr_fail hlvl hw ha hq, rfl, congrArg State.trace (raise_lineOp_of_fail ha _ _ _), rfl⟩
  · obtain ⟨t, ht, -, hfail⟩ := hdc kind hq
    obtain ⟨hidle, htrace⟩ := hfail ha
    exact ⟨t, _, ht, hidle, htrace, rfl⟩

/-! ## What a step can return (R150 to R155, R158) -/

/-- The errors of a step that is no reset: none, an unsupported tag's, or the one a line operation's answer raises. -/
inductive ErrorReturn (s : State) : State → Prop
  | noError {t : State} (T : List Event) (ht : t.trace = s.trace ++ T) (hT : ∀ e, .ret (.err e) ∉ T) : ErrorReturn s t
  | unsupported : ErrorReturn s (raise .unsupportedFormat s)
  | line (l : LineId) (lvl : Level) (e : Err) (he : raised l s.nextAnswer = some e) :
      ErrorReturn s (raise e (lineOp l lvl s))

section ErrorReturn

variable {s t : State}

/-- A line operation of a send returns the error its answer raises, if any. -/
theorem ErrorReturn.raiseOr_lineOp (s : State) (l : LineId) (lvl : Level) (q : SeqState) :
    ErrorReturn s (raiseOr (raised l s.nextAnswer) (fun t => t.withSeq q) (lineOp l lvl s)) := by
  cases he : raised l s.nextAnswer with
  | none => exact .noError [.lineOp l lvl s.nextAnswer] rfl (by simp)
  | some e => exact .line l lvl e he

/-- INIT returns no error: its only result is `Ok` (R112, R169). -/
theorem ErrorReturn.afterInitStep {u : State} (hu : PinAction s u) (k : InitStep) : ErrorReturn s (afterInitStep k u) := by
  obtain ⟨ev, htrace, hev⟩ := hu.trace_isRet
  have hne : ∀ e, .ret (.err e) ≠ ev := by
    rintro e rfl
    cases hev
  unfold Machine.afterInitStep
  cases k.next with
  | none => exact .noError [ev, .ret .ok] (by simp [htrace]) (by simpa using hne)
  | some k' => exact .noError [ev] htrace (by simpa using hne)

/-- What a step can return, over the cases of a step. -/
theorem StepTo.errorReturn (hst : StepTo s t) : t = resetEvent s ∨ ErrorReturn s t := by
  cases hst with
  | reset => exact .inl rfl
  | rest | dispatch => exact .inr (.noError [] (List.append_nil _).symm nofun)
  | initStep k u _ hu => exact .inr (.afterInitStep (pinAction_of_exec_initOp hu) k)
  | dc | word2 | word4 => exact .inr (.raiseOr_lineOp s _ _ _)
  | unsupported => exact .inr .unsupported
  | acceptInit | acceptSend | pull | word1 | word3 | word5 => exact .inr (.noError [_] rfl (by simp))
  | acceptRelease | pullEnd => exact .inr (.noError [_, .ret .ok] (List.append_assoc _ _ _) (by simp))

/-- The result a raise appends is the last event there is (R158). -/
theorem trace_of_raise {u : State} {T evs : List Event} {e e' : Err}
    (h : (raise e u).trace = T ++ evs ++ [.ret (.err e')]) : u.trace = T ++ evs ∧ e = e' := by
  obtain ⟨htrace, hret⟩ := List.append_inj' h rfl
  cases hret
  exact ⟨htrace, rfl⟩

end ErrorReturn

/-- Settles O34: a step that returns an error is a raise, after a failed DC or WR operation or after none. -/
theorem raiseLeavesLinesAsTheyAre : Obligations.RaiseLeavesLinesAsTheyAre := by
  intro s t e evs _ _ hstep htrace
  rcases (step_inversion hstep).errorReturn with rfl | hret
  · simp [resetEvent, State.reset] at htrace
  · cases hret with
    | noError T hT herr =>
      have hevs : evs ++ [.ret (.err e)] = T :=
        List.append_cancel_left ((List.append_assoc _ _ _).symm.trans (htrace.symm.trans hT))
      exact absurd (by simp [← hevs]) (herr e)
    | unsupported =>
      obtain ⟨hevs, rfl⟩ := trace_of_raise htrace
      exact .inl ⟨rfl, by simpa using hevs, rfl⟩
    | line l lvl e' he =>
      obtain ⟨ha, hle⟩ := raised_eq_some he
      obtain ⟨hevs, rfl⟩ := trace_of_raise htrace
      rw [lineOp_trace, ha] at hevs
      refine .inr ⟨l, lvl, hle, (List.append_cancel_left hevs).symm, rfl, fun l' hl => lineOp_get_other _ _ _ hl,
        fun hp => ?_, fun hp => ?_⟩
      · simp [ha, hp]
      · simp [ha, hp]

/-- Settles O47: the errors a step returns are UnsupportedFormat and those raised, and a CS answer raises none. -/
theorem chipSelectErrorNeverReturned : Obligations.ChipSelectErrorNeverReturned := by
  intro s t h hstep
  unfold NoChipSelectResult at h ⊢
  rcases (step_inversion hstep).errorReturn with rfl | hret
  · exact nofun
  · cases hret with
    | noError T hT herr => simp [hT, h, herr]
    | unsupported => simp [h]
    | line l lvl e he =>
      have hne : e ≠ .chipSelectError := by
        rintro rfl
        exact raised_ne_chipSelect l _ he
      simp [h, hne.symm]

end Sys2Proof.Machine
end

section
/-! PROOFS. Reset and hazards (70_reset_and_hazards.md): a reset in Idle (R180, R42), the stability of the bus value (R184),
and an infinite list of host operations (R190, R191). -/

namespace Sys2Proof.Machine

/-! ## Reset from outside (R180, R42) -/

/-- In Idle a reset that is the host's next event is the whole step (R180). -/
theorem step_of_reset_idle {s : State} {w : Bool} {rest : HostPlan} (hq : s.seq = .idle)
    (hx : s.inbox.next = some (.reset w, rest)) : step s = .next (resetEvent s) := by
  have hf : fetchNext s = .reset (resetEvent s) := by simp [fetchNext, hostDue_of_idle hq hx, hq, SeqState.isIdle]
  simp [step, hf]

/-- Settles O28: the step is the reset event, whose items are those of the reset state. -/
theorem resetEventRestoresEveryItem : Obligations.ResetEventRestoresEveryItem := by
  intro s w rest hq hx
  have hlines : ∀ l, (resetEvent s).lines.get l = .unknown := fun l => by cases l <;> rfl
  exact ⟨resetEvent s, step_of_reset_idle hq hx, hlines, rfl, rfl, rfl, rfl, rfl, rfl, rfl, rfl, rfl, rfl,
    HostPlan.rest_of_next hx, rfl⟩

/-! ## The registers outside INIT (R184) -/

/-- Outside INIT and without a reset a step writes, of lines and registers, the lines alone, or ODR alone as step 3 of a word
(R30, R36, R184). -/
theorem StepTo.view_cases {s t : State} (hst : StepTo s t) (hreset : ∀ w, hostDue s ≠ some (.reset w))
    (hinit : ∀ k, s.seq ≠ .initStep k) :
    (∃ ls, t.view = { s.view with lines := ls }) ∨
      ∃ i w ws, s.seq = .writing i w .d3 ws ∧ t.view = { s.view with odr := .known (zext32 w) } := by
  cases hst with
  | reset w _ hd => exact absurd hd (hreset w)
  | initStep k _ hq => exact absurd hq (hinit k)
  | dc | word2 | word4 => exact .inl ⟨_, raiseOr_withSeq_view _ _ (lineOp _ _ s)⟩
  | word3 i w ws hq => exact .inr ⟨i, w, ws, hq, rfl⟩
  | rest | acceptInit | acceptRelease | acceptSend | dispatch | unsupported | pull | pullEnd | word1 | word5 =>
    exact .inl ⟨_, rfl⟩

/-- Settles O52: what a step outside INIT writes leaves the other registers, and outside step 3 of a word ODR too. -/
theorem odrChangesOnlyInItsStep : Obligations.OdrChangesOnlyInItsStep := by
  intro s t hstep hreset hinit
  rcases (step_inversion hstep).view_cases hreset hinit with ⟨ls, hv⟩ | ⟨i, w, ws, hq, hv⟩
  · exact ⟨congrArg View.mode hv, congrArg View.pull hv, congrArg View.speed hv, congrArg View.idSample hv,
      fun _ => congrArg View.odr hv⟩
  · exact ⟨congrArg View.mode hv, congrArg View.pull hv, congrArg View.speed hv, congrArg View.idSample hv,
      fun hd3 => absurd hq (hd3 i w ws)⟩

/-! ## An infinite list of host operations (R190, R191) -/

/-- What every step keeps, every run keeps. -/
theorem runSteps_keeps {P : State → Prop} (hkeep : ∀ s t, P s → step s = .next t → P t) {k : Nat} {s t : State}
    (hs : P s) (hrun : runSteps k s = .next t) : P t := by
  induction k generalizing s with
  | zero => cases hrun; exact hs
  | succ k ih =>
    cases hstep : step s with
    | next u => exact ih (hkeep s u hs hstep) (runSteps_succ hstep ▸ hrun)
    | fault f => simp [runSteps, hstep] at hrun
    | refused r => simp [runSteps, hstep] at hrun

/-- The event that is due is the first of the host's plan. -/
theorem next_of_hostDue {s : State} {e : HostEvent} (h : hostDue s = some e) : ∃ rest, s.inbox.next = some (e, rest) := by
  unfold hostDue at h
  split at h
  · cases h
  · rename_i e' rest hx
    split at h
    · cases h
      exact ⟨rest, hx⟩
    · cases h

/-- No micro-operation changes the host's plan (R90, R99 to R102). -/
theorem PinAction.inbox {s u : State} (hu : PinAction s u) : u.inbox = s.inbox := by
  cases hu <;> rfl

theorem raiseOr_withSeq_inbox (e : Option Err) (q : SeqState) (s : State) :
    (raiseOr e (fun t => t.withSeq q) s).inbox = s.inbox := by
  cases e <;> rfl

theorem afterInitStep_inbox (k : InitStep) (s : State) : (afterInitStep k s).inbox = s.inbox := by
  unfold afterInitStep
  cases k.next <;> rfl

/-- A step leaves the host's plan as it is or takes its first event (R191). -/
theorem StepTo.inbox_cases {s t : State} (hst : StepTo s t) : t.inbox = s.inbox ∨ t.inbox = s.inbox.rest := by
  cases hst with
  | reset | acceptInit | acceptRelease | acceptSend => exact .inr rfl
  | initStep k u _ hu => exact .inl ((afterInitStep_inbox k u).trans (pinAction_of_exec_initOp hu).inbox)
  | dc | word2 | word4 => exact .inl (raiseOr_withSeq_inbox _ _ (lineOp _ _ s))
  | rest | dispatch | unsupported | pull | pullEnd | word1 | word3 | word5 => exact .inl rfl

/-- In Ready, with SEQ in agreement, the host's plan is one event, over and over (R190). -/
structure Repeats (e : HostEvent) (s : State) : Prop where
  agree : SeqLifeAgree s
  life : s.life = .ready
  inbox : s.inbox = ⟨[], .cycle e []⟩

section Repeats

variable {s t : State} {e : HostEvent}

theorem Repeats.next (h : Repeats e s) : s.inbox.next = some (e, s.inbox) := by
  rw [h.inbox]
  rfl

theorem Repeats.hostDue_eq (h : Repeats e s) {e' : HostEvent} (hd : hostDue s = some e') : e' = e := by
  obtain ⟨rest, hx⟩ := next_of_hostDue hd
  cases h.next.symm.trans hx
  rfl

/-- A host that repeats one operation other than RELEASE does so in Ready for ever (R162, R190). -/
theorem Repeats.step {b : Byte} {d : ElemStream} {w : Bool} (hb : b ≠ 0x30#8) (h : Repeats (.op b d w) s)
    (hstep : step s = .next t) : Repeats (.op b d w) t := by
  have hst := step_inversion hstep
  refine ⟨stepKeepsSeqLifeAgree s t h.agree hstep, ?_, ?_⟩
  · rcases hst.life_cases h.agree with hl | ⟨hl, -⟩ | ⟨-, -, -, d', w', hd⟩ | ⟨-, -, w', hd⟩
    · exact hl.trans h.life
    · exact hl
    · cases h.hostDue_eq hd
      exact absurd rfl hb
    · cases h.hostDue_eq hd
  · rcases hst.inbox_cases with hi | hi
    · exact hi.trans h.inbox
    · exact (hi.trans (HostPlan.rest_of_next h.next)).trans h.inbox

end Repeats

theorem sendRows_header_ne_release : ∀ c, ∀ r ∈ sendRows c, r.header ≠ 0x30#8 := by
  decide

/-- One operation of a host that repeats a send operation whose payload ends: one result, and the host goes on (R190). -/
theorem Repeats.runSteps_send {s : State} {c : BitVec 3} {r : SendRow} (hr : r ∈ sendRows c) {d e : ElemStream}
    {xs : List Word16} (h : Repeats (.op r.header d true) s) (hq : s.seq = .idle) (hd : Delivers d xs e)
    (he : e.next = none) :
    ∃ m t, runSteps m s = .next t ∧ t.seq = .idle ∧ Repeats (.op r.header d true) t ∧
      (t.trace.filter Event.isRet).length = (s.trace.filter Event.isRet).length + 1 := by
  have hb := sendRows_header_ne_release c r hr
  have hwaits : s.inbox.waits = true := HostPlan.waits_of_next h.next
  obtain ⟨m, t, evs, res, hrun, hqt, htrace, hevs⟩ :=
    everySendHasOneDcEvent s c r hr d e xs true s.inbox h.life hq h.next hwaits hd he
  refine ⟨m, t, hrun, hqt, runSteps_keeps (fun _ _ hs => hs.step hb) h hrun, ?_⟩
  have hnone : evs.filter Event.isRet = [] := List.filter_eq_nil_iff.mpr fun e he => by simp [(hevs e he).2]
  simp [htrace, hnone, List.filter_cons, Event.isRet]

/-- Settles O56: each round is the whole send operation, whatever its answers, and the host's plan is then the same again. -/
theorem infiniteHostListGoesOn : Obligations.InfiniteHostListGoesOn := by
  intro s c r hr d e xs hl hq hx hd he k
  suffices h : ∃ m t, runSteps m s = .next t ∧ t.seq = .idle ∧ Repeats (.op r.header d true) t ∧
      (t.trace.filter Event.isRet).length = (s.trace.filter Event.isRet).length + k by
    obtain ⟨m, t, hrun, hqt, ht, hcount⟩ := h
    exact ⟨m, t, hrun, hqt, ht.life, ht.inbox.trans hx.symm, hcount⟩
  induction k with
  | zero => exact ⟨0, s, rfl, hq, ⟨.of_idle hq, hl, hx⟩, rfl⟩
  | succ k ih =>
    obtain ⟨m, t, hrun, hqt, ht, hcount⟩ := ih
    obtain ⟨n, u, hrun', hqu, hu, hcount'⟩ := ht.runSteps_send hr hqt hd he
    exact ⟨m + n, u, (runSteps_add hrun).trans hrun', hqu, hu, by rw [hcount', hcount, Nat.add_assoc]⟩

end Sys2Proof.Machine
end

section
/-! PROOFS. The inner operations outside the precondition the spec gives each (41_bus_writer.md section 1,
42_data_format_adapter.md section 2). The names of the stops are the model's (log entry 15). -/

namespace Sys2Proof.Machine

variable {s : State}

/-- The dispatch needs a payload in `DcSet` (R132). -/
theorem exec_writePayload_outOfSequence (hq : ∀ p, s.seq ≠ .dcSet p) : exec .writePayload s = .fault .outOfSequence := by
  rw [exec, execWritePayload]
  cases hs : s.seq with
  | dcSet p => exact absurd hs (hq p)
  | idle | initStep _ | dcPending _ _ | fetch _ _ | writing _ _ _ _ => rfl

/-- A turn of the loop needs a word sequence in `Fetch` (R133). -/
theorem exec_writeSequence_outOfSequence (hq : ∀ i ws, s.seq ≠ .fetch i ws) :
    exec .writeSequence s = .fault .outOfSequence := by
  rw [exec, execWriteSequence]
  cases hs : s.seq with
  | fetch i ws => exact absurd hs (hq i ws)
  | idle | initStep _ | dcPending _ _ | dcSet _ | writing _ _ _ _ => rfl

/-- A word needs the handshake to have put the instance in Ready (R110, R116). -/
theorem exec_driveWord_beforeHandshake (w : Word16) (hl : s.life ≠ .ready) :
    exec (.driveWord w) s = .fault .beforeHandshake := by
  rw [exec, execDriveWord]
  cases hs : s.life with
  | ready => exact absurd hs hl
  | uninit | released => rfl

/-- Settles O19: each operation gives a meaning to the one SEQ state or LIFE its precondition names, and stops in every
other. -/
theorem innerOperationsStopOutOfPlace : Obligations.InnerOperationsStopOutOfPlace := fun _ =>
  ⟨exec_writePayload_outOfSequence, exec_writeSequence_outOfSequence, exec_driveWord_beforeHandshake⟩

end Sys2Proof.Machine
end
